-- ==== Sys2Proof/Word.lean ====
section
/-! DEFINITION. The two word types of the model: a byte of a frame, block or snapshot, and a reading of the node's
own millisecond clock (R1). -/

namespace Sys2Proof

/-- One byte of a frame (R51), of the configuration block (R197) or of a supervisory snapshot (R198). -/
abbrev Byte := BitVec 8

/-- A reading of the node's clock: an unsigned 64-bit count of milliseconds (R1). -/
abbrev Time := BitVec 64

end Sys2Proof
end

