-- ==== Sys2Proof/Syntax.lean ====
section
/-! DEFINITION. The commands of the BK-416: one constructor per row of spec/opcode_table.json, with the operands that
the rule of the row gives the step (95_what_each_step_holds.md: each row is one whole, indivisible step). -/

namespace Sys2Proof

/-- The two meter pulse channels (R4, R5). -/
inductive Channel where
  | a
  | b
  deriving DecidableEq, Repr

/-- The three filtered pulse inputs (R4, R118). -/
inductive PulseInput where
  | a
  | b
  | confirmation
  deriving DecidableEq, Repr

/-- A filtered level that the inputs have taken (R4, R118). -/
inductive LevelChange where
  /-- the level of a meter channel is high: an edge where it was low -/
  | high (channel : Channel)
  /-- the level of an input is low -/
  | low (input : PulseInput)
  deriving DecidableEq, Repr

/-- The byte of a sensor bus transaction that the transmitter did not acknowledge (R21). -/
inductive NackByte where
  /-- the address byte of ADDRESS WRITE -/
  | addressWrite
  /-- the register pointer byte -/
  | pointer
  /-- the address byte of ADDRESS READ -/
  | addressRead
  deriving DecidableEq, Repr

/-- The phase of a sensor bus transaction in which a clock stretch or a line hold is met (R22). -/
inductive TransferPhase where
  | addressWrite
  | pointer
  | addressRead
  | data
  | stop
  deriving DecidableEq, Repr

/-- The commands, events and port transactions of the part: the rows of spec/opcode_table.json, in its order. -/
inductive Instr where
  /-- COLD_RESET (R1, R66, R173): the reset ends with the straps and the three pulse inputs at these levels. -/
  | coldReset (nodeStraps : BitVec 4) (addressStraps : BitVec 2) (levelA levelB levelConfirm : Bool)
  /-- PULSE_EDGE (R4, R5): the 40 µs filter has accepted this level. A meter channel's change from low to high is the edge
  that counts; the row carries the falls of the three pulse inputs too, for which the table has no row (log entry 13). -/
  | pulseEdge (change : LevelChange)
  /-- CYCLE_TIMER_EXPIRY (R7). -/
  | cycleTimerExpiry
  /-- BUS_RELEASED (R19): both lines read high. After START CHECK it stands for the going on of the transaction once a
  phase's bytes are acknowledged (R20), for which the table has no row (log entry 6). -/
  | busReleased
  /-- BUS_HELD (R19). -/
  | busHeld
  /-- STRETCH_NOTICE (R22): the hold is in this phase of the transaction. -/
  | stretchNotice (phase : TransferPhase)
  /-- STRETCH_ABORT (R23). -/
  | stretchAbort
  /-- ADDRESS_NACK (R21): this byte was not acknowledged. -/
  | addressNack (byte : NackByte)
  /-- TRANSACTION_END (R20): the three value bytes, most significant first, and the status byte. -/
  | transactionEnd (value : BitVec 24) (status : Byte)
  /-- RECOVERY_END (R23). -/
  | recoveryEnd
  /-- RECEIVER_SYNCED (R52). -/
  | receiverSynced
  /-- FRAME_END (R53): the bytes kept (28 at most), whether a stop bit read dominant, whether a further byte came. -/
  | frameEnd (bytes : List Byte) (framingError overLong : Bool)
  /-- TALLY_TIMER_EXPIRY (R56). -/
  | tallyTimerExpiry
  /-- LINE_IDLE (R59). -/
  | lineIdle
  /-- HOLDOFF_END (R59). -/
  | holdoffEnd
  /-- DEFERRAL (R59). -/
  | deferral
  /-- COLLISION (R60). -/
  | collision
  /-- FRAME_SENT (R61). -/
  | frameSent
  /-- PEER_EXPIRY (R79): the node number whose entry expires. -/
  | peerExpiry (node : Nat)
  /-- UNHEARD (R85). -/
  | unheard
  /-- STROKE_START (R132). -/
  | strokeStart
  /-- FILL_END (R124). -/
  | fillEnd
  /-- DRIVE_END (R124). -/
  | driveEnd
  /-- CONFIRMATION_PULSE (R118, R125): the 40 µs filter of the confirmation input has accepted a high level. The change from
  low to high is the pulse (log entry 13). -/
  | confirmationPulse
  /-- CONFIRM_WINDOW_EXPIRY (R130). -/
  | confirmWindowExpiry
  /-- RECOVER_END (R124). -/
  | recoverEnd
  /-- HISTORY_ENTRY_LEAVES (R133). -/
  | historyEntryLeaves
  /-- SPACING_RUNS_OUT (R134). -/
  | spacingRunsOut
  /-- PERIOD_TIMER_EXPIRY (R150). -/
  | periodTimerExpiry
  /-- LOW_DWELL_EXPIRY (R155). -/
  | lowDwellExpiry
  /-- INTERVAL_TIMER_EXPIRY (R164). -/
  | intervalTimerExpiry
  /-- STATUS (R186): the selector. -/
  | status
  /-- TOTALS (R187): the selector. -/
  | totals
  /-- PEER (R92): the selector with its node number. -/
  | peer (node : Byte)
  /-- RECORD (R168): the selector with its sequence. -/
  | record (sequence : BitVec 32)
  /-- NEXT_RECORD (R169): the selector. -/
  | nextRecord
  /-- CONFIG (R179): the selector with its byte offset. -/
  | config (offset : BitVec 16)
  /-- CONFIG_WRITE (R178): a write transaction of the CONFIG selector, its offset and the data bytes that follow.
  `stopped` says that it ended with a STOP or a repeated START; without it the bytes received so far stand and the
  transaction is cut off (R175), which TRANSACTION_ABANDONED then counts. -/
  | configWrite (offset : BitVec 16) (data : List Byte) (stopped : Bool)
  /-- UNRECOGNISED_SELECTOR (R174): a byte the node does not acknowledge. -/
  | unrecognisedSelector
  /-- TRANSACTION_ABANDONED (R175). -/
  | transactionAbandoned
  /-- START (R180). -/
  | start
  /-- HOLD (R120). -/
  | hold
  /-- RESUME (R121). -/
  | resume
  /-- PUMP_RESET (R122). -/
  | pumpReset
  /-- LEAVE (R89). -/
  | leave
  /-- JOIN (R90). -/
  | join
  /-- MARK (R165). -/
  | mark
  /-- CLEAR_LATCHES (R191). -/
  | clearLatches
  /-- UNKNOWN (R183): a command code that names no command. -/
  | unknown (code : Byte)
  /-- COMMAND_SELECTOR (R176). -/
  | commandSelector
  /-- WRITE_ENDED_PART_WAY (R174). -/
  | writeEndedPartWay
  deriving DecidableEq, Repr

end Sys2Proof
end

