-- ==== Sys2Proof/Decode.lean ====
section
/-! DEFINITION. The command that a word spells by the bits of spec/opcode_table.json. No row of this table gives bits:
its rows are events of the part, steps of its port and commands that arrive as whole transactions, so no word spells
one (log entry 5). The bytes that the part itself decodes, those of frames, of the configuration block and of the
supervisory port, are read in Machine/Operands.lean. -/

namespace Sys2Proof

/-- The command spelled by a word of `nbits` bits: none, for no row of the table gives bits. -/
def decodeTableWord (_nbits _w : Nat) : Option Instr := none

end Sys2Proof
end

