-- ==== Sys2Proof/Config.lean ====
section
/-! DEFINITION. What the manual leaves free. -/

namespace Sys2Proof.Config

/-- The order in which events that fall due at one instant are taken when the sender has queued none of them.
The manual lets such events be taken in either order (R7, R17, R62, R79, R85, R111, R125, R133, R135, R149, R155,
R166), so nothing is known of this choice: the n-th choice is `freeOrder n`. Log entry 2. -/
opaque freeOrder : Nat → Nat

end Sys2Proof.Config
end

