-- ==== Sys2Proof/Machine/State.lean ====
section
/-! DEFINITION. The state of one BK-416 node, block by block as the manual's section 0.2 lists them, and the state after
a cold reset. Plain data throughout. -/

namespace Sys2Proof.Machine

/-! ## Alarm conditions and interval flags -/

/-- The sixteen conditions of R189, in the order of their numbers. -/
inductive Cond where
  | pressSubst
  | tempSubst
  | pulseMismatch
  | pulseOverrange
  | peerLost
  | peerImplausible
  | unheard
  | alone
  | duplicateNumber
  | linkFault
  | pumpFault
  | pumpStrained
  | throttled
  | concLow
  | undosed
  | debtReleased
  deriving DecidableEq, Repr

/-- The seventeen flags of an interval's flag set (R163), in the bit order of R198. -/
inductive Flag where
  | heldP
  | substitutedP
  | clampedP
  | heldT
  | substitutedT
  | clampedT
  | pulseMismatch
  | pulseOverrange
  | peerLost
  | peerImplausible
  | solo
  | parked
  | throttled
  | pumpFault
  | pumpStrained
  | debtReleased
  | undosed
  deriving DecidableEq, Repr

/-- The Alarm Unit (R189, R190, R192). Bit n − 1 stands for condition n. -/
structure AlarmUnit where
  /-- the current state of each level condition; the bit of an event condition stays 0 -/
  conditions : BitVec 16
  latches : BitVec 16
  /-- the masks in force, empty before START -/
  mask1 : BitVec 16
  mask2 : BitVec 16
  deriving DecidableEq, Repr

/-! ## Configuration in force -/

/-- The configuration fields in force (R180 gives their indexes, R197 their places). Before START is accepted no field
is in force and every field reads 0. -/
structure Cfg where
  pulseWeight : Nat
  dualPulse : Nat
  mismatchLimit : Nat
  pressureAddress : Nat
  temperatureAddress : Nat
  plo : Nat
  phi : Nat
  tlo : Nat
  thi : Nat
  pressureFallback : Nat
  temperatureFallback : Nat
  holdCycles : Nat
  basePressure : Nat
  baseTemperature : Nat
  pointCount : Nat
  /-- the eight points of the compressibility table: pressure and factor of each -/
  points : List (Nat × Nat)
  doseTarget : Nat
  strokeMass : Nat
  capacityClass : Nat
  low : Nat
  high : Nat
  strain : Nat
  ceiling : Nat
  hysteresis : Nat
  fillTime : Nat
  driveTime : Nat
  confirmWindow : Nat
  recoverTime : Nat
  minSpacing : Nat
  pacedSpacing : Nat
  windowLength : Nat
  windowCap : Nat
  missLimit : Nat
  primeCount : Nat
  tallyInterval : Nat
  filterShift : Nat
  filterPeriod : Nat
  vmin : Nat
  upperLimit : Nat
  throttleHysteresis : Nat
  lowerLimit : Nat
  lowDwell : Nat
  intervalLength : Nat
  mask1 : Nat
  mask2 : Nat
  crc : Nat
  deriving DecidableEq, Repr

/-! ## Pulse Counter -/

/-- The cycle record of R10. -/
structure CycleRecord where
  number : BitVec 32
  a : Nat
  b : Nat
  n : Nat
  /-- the source of N is channel B -/
  sourceB : Bool
  satA : Bool
  satB : Bool
  mismatch : Bool
  deriving DecidableEq, Repr

/-- The Pulse Counter (R15). -/
structure PulseCounter where
  /-- the instant at which the current cycle began; none while the cycle timer is stopped (R2, R3) -/
  cycleStart : Option Time
  a : Nat
  b : Nat
  satA : Bool
  satB : Bool
  preStart : Nat
  last : CycleRecord
  nextNumber : BitVec 32
  /-- the filtered levels of channels A and B as the table's events report them (R4) -/
  levelA : Bool
  levelB : Bool
  deriving DecidableEq, Repr

/-! ## Sensor Bus Master -/

/-- The two transmitters of the sensor bus. -/
inductive Quantity where
  | pressure
  | temperature
  deriving DecidableEq, Repr

/-- The transaction phases of R24. -/
inductive TxnPhase where
  | idle
  | startCheck
  | addressWrite
  | pointer
  | addressRead
  | data
  | stop
  | recovery
  deriving DecidableEq, Repr

/-- The failure causes of R24. -/
inductive FailCause where
  | none
  | addressNack
  | pointerNack
  | busHeld
  | stretchAbort
  | notValid
  deriving DecidableEq, Repr

/-- The kinds of a value given to conversion (R27). -/
inductive ValueKind where
  | fresh
  | held
  | substituted
  deriving DecidableEq, Repr

/-- The state of one transmitter (R24). -/
structure Transmitter where
  phase : TxnPhase
  /-- the instant at which START CHECK of the transaction began (R19) -/
  checkStart : Time
  lastGood : Option Nat
  clamped : Bool
  sampled : Bool
  age : Nat
  lastRaw : BitVec 24
  lastCause : FailCause
  good : BitVec 32
  failures : BitVec 32
  stretchNotice : Bool
  stretchNotices : BitVec 32
  deriving DecidableEq, Repr

/-- A value given to the Conversion Unit with its kind (R27, R31). -/
structure Given where
  value : Nat
  kind : ValueKind
  deriving DecidableEq, Repr

/-- The Sensor Bus Master (R24, R31, R32). A poll is running exactly while one of the two phases is not IDLE (R16). -/
structure SensorBus where
  pressure : Transmitter
  temperature : Transmitter
  skipped : BitVec 32
  givenP : Given
  givenT : Given
  deriving DecidableEq, Repr

/-! ## Conversion Unit -/

/-- The record of the most recent conversion (R46). -/
structure ConversionRecord where
  number : BitVec 32
  n : Nat
  va : Nat
  pf : Nat
  pfKind : ValueKind
  tf : Nat
  tfKind : ValueKind
  f : Nat
  c : Nat
  vb : Nat
  q : Nat
  deriving DecidableEq, Repr

/-- The Conversion Unit (R47). -/
structure ConversionUnit where
  q : Nat
  /-- own cumulative actual volume, µL, modulo 2^64 (R42) -/
  actual : BitVec 64
  /-- own cumulative base volume, µL, modulo 2^64 (R42) -/
  base : BitVec 64
  last : ConversionRecord
  cmin : Nat
  cmax : Nat
  deriving DecidableEq, Repr

/-! ## Tally Line Interface -/

/-- The fields of a TALLY frame between its node number and its CRC (R57, R196). -/
structure TallyFrame where
  node : Byte
  sequence : Byte
  intervalCode : Byte
  /-- the mode field says SHARED -/
  shared : Bool
  capacity : Byte
  litres : BitVec 32
  delivered : BitVec 32
  released : BitVec 32
  debt : BitVec 32
  target : BitVec 16
  /-- bit n − 1 set when the sender holds node n as LIVE -/
  heard : BitVec 16
  deriving DecidableEq, Repr

/-- The fields of a LEAVE frame (R58, R196). -/
structure LeaveFrame where
  node : Byte
  sequence : Byte
  released : BitVec 32
  deriving DecidableEq, Repr

/-- A frame a node builds or takes. -/
inductive Frame where
  | tally (f : TallyFrame)
  | leave (f : LeaveFrame)
  deriving DecidableEq, Repr

/-- The bad causes of R53. -/
inductive BadCause where
  | none
  | framing
  | length
  | crc
  | kind
  | node
  | field
  deriving DecidableEq, Repr

/-- The transmitter states of section 4.4. -/
inductive TxState where
  | empty
  | defer
  | holdoff
  | sending
  | silent
  deriving DecidableEq, Repr

/-- The receiver states of R65. -/
inductive RxState where
  | off
  | syncing
  | on
  deriving DecidableEq, Repr

/-- The frame owed while the transmitter is SENDING (R62). -/
inductive Owed where
  | none
  | tally
  | leave
  deriving DecidableEq, Repr

/-- The pending transmit frame, with the own mode at its building (R61). -/
structure Pending where
  frame : Frame
  /-- the own mode was SHARED when the frame was built; it was SOLO for another TALLY -/
  builtShared : Bool
  deriving DecidableEq, Repr

/-- The Tally Line Interface (R65, R66). -/
structure TallyLine where
  receiver : RxState
  transmitter : TxState
  pending : Option Pending
  owed : Owed
  attempt : Nat
  sequence : Byte
  /-- the last expiry of the tally timer, or START; none while it is stopped (R56) -/
  timerStart : Option Time
  /-- the line has been recessive for 10 bit times, as the table's events report it (R51) -/
  lineIdle : Bool
  /-- the frame that this node has sent whole and whose end the receiver has still to see (R55); none otherwise -/
  ownOnLine : Option Frame
  /-- the length of the holdoff last entered, in bit times (R59) -/
  holdoff : Nat
  sent : BitVec 32
  collisions : BitVec 32
  abandoned : BitVec 32
  replaced : BitVec 32
  consecutive : Nat
  goodReceived : BitVec 32
  badReceived : BitVec 32
  lastBad : BadCause
  ownNumber : BitVec 32
  deriving DecidableEq, Repr

/-! ## Peer Table -/

/-- The causes of SOLO (R82). -/
inductive SoloCause where
  | starting
  | unheard
  | alone
  | duplicate
  deriving DecidableEq, Repr

/-- The own mode with its cause (section 5.6). -/
inductive Mode where
  | config
  | solo (cause : SoloCause)
  | shared
  | parked
  deriving DecidableEq, Repr

/-- The fields that only a LIVE entry holds (R69). -/
structure LiveFields where
  shared : Bool
  sequence : Byte
  interval : Nat
  capacity : Nat
  litres : BitVec 32
  delivered : BitVec 32
  released : BitVec 32
  debt : BitVec 32
  sharedDebt : Option (BitVec 32)
  target : BitVec 16
  differs : Bool
  listed : Bool
  deriving DecidableEq, Repr

/-- The state of an entry (R68). -/
inductive EntryStatus where
  | absent
  | live (f : LiveFields)
  | expired
  | left
  deriving DecidableEq, Repr

/-- One entry of the Peer Table (R69): the counters and the last heard time outlive LIVE. -/
structure Entry where
  status : EntryStatus
  lastHeard : Time
  lost : BitVec 32
  implausible : BitVec 32
  deriving DecidableEq, Repr

/-- The Peer Table with the own mode (R93). The entry of node n stands at place n − 1; the own number's place is never
written and stays ABSENT (R68). -/
structure PeerTable where
  mode : Mode
  switchPending : Bool
  lastSharedDebt : BitVec 32
  lastListed : Option Time
  entries : List Entry
  deriving DecidableEq, Repr

/-! ## Dose Accounting -/

/-- Where an own cycle event's amount went (R115). -/
inductive Disposition where
  | charged
  | waived
  | undosed
  deriving DecidableEq, Repr

/-- The record of the last own cycle event (R115). -/
structure OwnCycle where
  number : BitVec 32
  vb : Nat
  disposition : Disposition
  amount : Nat
  deriving DecidableEq, Repr

/-- The kinds of adoption (R106). -/
inductive AdoptionKind where
  | released
  | expiry
  | modeChange
  deriving DecidableEq, Repr

/-- The record of the last adoption event (R115). -/
structure Adoption where
  kind : AdoptionKind
  peer : Nat
  offered : Nat
  denominator : Nat
  share : Nat
  adopted : Nat
  deriving DecidableEq, Repr

/-- Dose Accounting (R94, R115). -/
structure DoseAccounting where
  debt : Nat
  r : Nat
  ru : Nat
  charged : BitVec 64
  adopted : BitVec 64
  debited : BitVec 64
  released : BitVec 64
  surrendered : BitVec 64
  waived : BitVec 64
  undosed : BitVec 64
  delivered : BitVec 64
  excess : BitVec 64
  lastOwn : Option OwnCycle
  lastAdoption : Option Adoption
  deriving DecidableEq, Repr

/-! ## Pump Sequencer -/

/-- The pump conditions of section 7.2; UNSET before START (R119). -/
inductive PumpCondition where
  | unset
  | none
  | priming
  | available
  | held
  | fault
  deriving DecidableEq, Repr

/-- The phases of a stroke in flight (R124); IDLE is the absence of a stroke. -/
inductive StrokePhase where
  | fill
  | drive
  | confirm
  | recover
  deriving DecidableEq, Repr

/-- A stroke in flight (R124). -/
structure Stroke where
  prime : Bool
  start : Time
  confirmed : Bool
  counts : Bool
  phase : StrokePhase
  /-- the instant at which the phase began -/
  phaseStart : Time
  deriving DecidableEq, Repr

/-- The Pump Sequencer (R140, R141). -/
structure PumpSequencer where
  condition : PumpCondition
  stroke : Option Stroke
  /-- the stroke history, oldest first (R133) -/
  history : List Time
  lastStart : Option Time
  missCount : Nat
  primeRemaining : Nat
  behind : Bool
  strained : Bool
  started : BitVec 32
  confirmed : BitVec 32
  primed : BitVec 32
  missed : BitVec 32
  stray : BitVec 32
  /-- the filtered level of the confirmation input as the table's events report it (R118) -/
  level : Bool
  deriving DecidableEq, Repr

/-! ## Concentration Filter -/

/-- The low-dwell timer (R155, R157). -/
inductive Dwell where
  | stopped
  | running (since : Time)
  | expired
  deriving DecidableEq, Repr

/-- The Concentration Filter (R146). -/
structure ConcentrationFilter where
  /-- the last expiry of the period timer, or START; none while it is stopped (R147) -/
  periodStart : Option Time
  volume : BitVec 64
  delivered : BitVec 64
  average : Nat
  lastSample : Nat
  lastClamped : Bool
  sampledPeriods : BitVec 32
  carriedPeriods : BitVec 32
  consecutiveCarried : Nat
  throttled : Bool
  dwell : Dwell
  concLow : Bool
  deriving DecidableEq, Repr

/-! ## Interval Store -/

/-- The current interval (R160). -/
structure CurrentInterval where
  openTime : Time
  startActual : BitVec 64
  startBase : BitVec 64
  startHeader : BitVec 64
  cycles : BitVec 32
  sumPf : BitVec 64
  sumTf : BitVec 64
  delivered : BitVec 64
  charged : BitVec 64
  adopted : BitVec 64
  released : BitVec 64
  surrendered : BitVec 64
  waived : BitVec 64
  undosed : BitVec 64
  strokes : BitVec 32
  missed : BitVec 32
  leastLive : Nat
  flags : BitVec 17
  deriving DecidableEq, Repr

/-- The close causes of R164. -/
inductive CloseCause where
  | timer
  | mark
  deriving DecidableEq, Repr

/-- One interval record (R164). -/
structure IntervalRecord where
  sequence : BitVec 32
  cause : CloseCause
  duration : Nat
  cycles : BitVec 32
  actual : BitVec 64
  base : BitVec 64
  header : BitVec 64
  delivered : BitVec 64
  charged : BitVec 64
  adopted : BitVec 64
  released : BitVec 64
  surrendered : BitVec 64
  waived : BitVec 64
  undosed : BitVec 64
  strokes : BitVec 32
  missed : BitVec 32
  averagePf : Nat
  averageTf : Nat
  leastLive : Nat
  mode : Mode
  flags : BitVec 17
  deriving DecidableEq, Repr

/-- The Interval Store (R160, R172). -/
structure IntervalStore where
  /-- the last expiry of the interval timer, or START; none while it is stopped (R161) -/
  timerStart : Option Time
  current : Option CurrentInterval
  /-- µL of header base volume seen since START (R163) -/
  header : BitVec 64
  /-- the closed records, oldest first (R167) -/
  ring : List IntervalRecord
  nextSequence : BitVec 32
  cursor : BitVec 32
  deriving DecidableEq, Repr

/-! ## Supervisory Port -/

/-- The states of the configuration block (R178). -/
inductive BlockState where
  | absent
  | written
  | locked
  deriving DecidableEq, Repr

/-- The selectors of R174, with their parameters. -/
inductive Selector where
  | status
  | totals
  | peer (node : Byte)
  | record (sequence : BitVec 32)
  | nextRecord
  | config (offset : BitVec 16)
  | command
  deriving DecidableEq, Repr

/-- What the last-command record names (R185, R198). -/
inductive CommandKind where
  | none
  | command
  | configWrite
  deriving DecidableEq, Repr

/-- The results of R185. -/
inductive CommandResult where
  | none
  | done
  | refusedState
  | refusedValue
  | unknown
  deriving DecidableEq, Repr

/-- The last-command record (R185). -/
structure LastCommand where
  kind : CommandKind
  code : Byte
  result : CommandResult
  index : Nat
  time : Time
  count : BitVec 32
  deriving DecidableEq, Repr

/-- The Supervisory Port (R188). -/
structure SupervisoryPort where
  /-- the 151 bytes of the configuration block (R197) -/
  block : List Byte
  blockState : BlockState
  selector : Selector
  /-- the bytes of the latched snapshot (R176, R177) -/
  snapshot : List Byte
  last : LastCommand
  protocolErrors : BitVec 32
  deriving DecidableEq, Repr

/-! ## The node -/

/-- The whole node, with the queue of commands that wait for it. -/
structure State where
  /-- the node's clock (R1) -/
  clock : Time
  /-- the node-number straps as read at the cold reset; the node number is one more (R66) -/
  nodeStraps : BitVec 4
  /-- the address offset read from the address straps at the cold reset (R173) -/
  addressOffset : BitVec 2
  cfg : Cfg
  pulse : PulseCounter
  sensor : SensorBus
  conv : ConversionUnit
  tally : TallyLine
  peers : PeerTable
  dose : DoseAccounting
  pump : PumpSequencer
  filter : ConcentrationFilter
  store : IntervalStore
  port : SupervisoryPort
  alarm : AlarmUnit
  /-- the model's own: the commands that wait, first in, first out -/
  pending : List Instr
  /-- the model's own: how many choices of order have been made on an empty queue (log entry 2) -/
  choices : Nat
  deriving DecidableEq, Repr

/-- The reasons for which the machine stops with a fault: there are none. The manual gives every command of the table a
next state in every state of the node, so no constructor is needed (log entry 4). -/
inductive Fault where
  deriving DecidableEq, Repr

/-- The reasons for which a command is refused by the model. -/
inductive Refusal where
  /-- Raised by an arm of `exec` whose command has no meaning yet. Safe: nothing is claimed of that command. No arm
  raises it: every command has its meaning. -/
  | notModelled (mnemonic : String)
  deriving DecidableEq, Repr

/-! ## Cold-reset values -/

/-- No field in force (R15, R47, R96, R188). -/
def Cfg.none : Cfg :=
  { pulseWeight := 0, dualPulse := 0, mismatchLimit := 0, pressureAddress := 0, temperatureAddress := 0, plo := 0, phi := 0,
    tlo := 0, thi := 0, pressureFallback := 0, temperatureFallback := 0, holdCycles := 0, basePressure := 0,
    baseTemperature := 0, pointCount := 0, points := List.replicate 8 (0, 0), doseTarget := 0, strokeMass := 0,
    capacityClass := 0, low := 0, high := 0, strain := 0, ceiling := 0, hysteresis := 0, fillTime := 0, driveTime := 0,
    confirmWindow := 0, recoverTime := 0, minSpacing := 0, pacedSpacing := 0, windowLength := 0, windowCap := 0,
    missLimit := 0, primeCount := 0, tallyInterval := 0, filterShift := 0, filterPeriod := 0, vmin := 0, upperLimit := 0,
    throttleHysteresis := 0, lowerLimit := 0, lowDwell := 0, intervalLength := 0, mask1 := 0, mask2 := 0, crc := 0 }

/-- The last cycle record before the first expiry (R14). -/
def CycleRecord.zero : CycleRecord :=
  { number := 0, a := 0, b := 0, n := 0, sourceB := false, satA := false, satB := false, mismatch := false }

/-- The Pulse Counter after a cold reset (R15), with the two input levels as they stand. -/
def PulseCounter.reset (levelA levelB : Bool) : PulseCounter :=
  { cycleStart := none, a := 0, b := 0, satA := false, satB := false, preStart := 0, last := CycleRecord.zero,
    nextNumber := 1, levelA := levelA, levelB := levelB }

/-- One transmitter after a cold reset (R32). -/
def Transmitter.reset : Transmitter :=
  { phase := .idle, checkStart := 0, lastGood := none, clamped := false, sampled := false, age := 0, lastRaw := 0,
    lastCause := .none, good := 0, failures := 0, stretchNotice := false, stretchNotices := 0 }

/-- The Sensor Bus Master after a cold reset (R32). -/
def SensorBus.reset : SensorBus :=
  { pressure := Transmitter.reset, temperature := Transmitter.reset, skipped := 0,
    givenP := { value := 0, kind := .substituted }, givenT := { value := 0, kind := .substituted } }

/-- The Conversion Unit after a cold reset (R47). -/
def ConversionUnit.reset : ConversionUnit :=
  { q := 0, actual := 0, base := 0,
    last := { number := 0, n := 0, va := 0, pf := 0, pfKind := .substituted, tf := 0, tfKind := .substituted, f := 0,
              c := 0, vb := 0, q := 0 },
    cmin := 0, cmax := 0 }

/-- The Tally Line Interface after a cold reset (R66). -/
def TallyLine.reset : TallyLine :=
  { receiver := .off, transmitter := .empty, pending := none, owed := .none, attempt := 0, sequence := 0,
    timerStart := none, lineIdle := false, ownOnLine := none, holdoff := 0, sent := 0, collisions := 0, abandoned := 0, replaced := 0,
    consecutive := 0, goodReceived := 0, badReceived := 0, lastBad := .none, ownNumber := 0 }

/-- An ABSENT entry (R69). -/
def Entry.absent : Entry := { status := .absent, lastHeard := 0, lost := 0, implausible := 0 }

/-- The Peer Table after a cold reset (R93). -/
def PeerTable.reset : PeerTable :=
  { mode := .config, switchPending := false, lastSharedDebt := 0, lastListed := none,
    entries := List.replicate 16 Entry.absent }

/-- Dose Accounting after a cold reset (R96). -/
def DoseAccounting.reset : DoseAccounting :=
  { debt := 0, r := 0, ru := 0, charged := 0, adopted := 0, debited := 0, released := 0, surrendered := 0, waived := 0,
    undosed := 0, delivered := 0, excess := 0, lastOwn := none, lastAdoption := none }

/-- The Pump Sequencer after a cold reset (R141), with the confirmation input's level as it stands. -/
def PumpSequencer.reset (level : Bool) : PumpSequencer :=
  { condition := .unset, stroke := none, history := [], lastStart := none, missCount := 0, primeRemaining := 0,
    behind := false, strained := false, started := 0, confirmed := 0, primed := 0, missed := 0, stray := 0,
    level := level }

/-- The Concentration Filter after a cold reset (R158). -/
def ConcentrationFilter.reset : ConcentrationFilter :=
  { periodStart := none, volume := 0, delivered := 0, average := 0, lastSample := 0, lastClamped := false,
    sampledPeriods := 0, carriedPeriods := 0, consecutiveCarried := 0, throttled := false, dwell := .stopped,
    concLow := false }

/-- The Interval Store after a cold reset (R172). -/
def IntervalStore.reset : IntervalStore :=
  { timerStart := none, current := none, header := 0, ring := [], nextSequence := 1, cursor := 1 }

/-- The last-command record after a cold reset (R185). -/
def LastCommand.none : LastCommand := { kind := .none, code := 0, result := .none, index := 0, time := 0, count := 0 }

/-- The Supervisory Port after a cold reset (R188), with the bytes of the STATUS snapshot latched at its end (R177). -/
def SupervisoryPort.reset (snapshot : List Byte) : SupervisoryPort :=
  { block := List.replicate 151 0, blockState := .absent, selector := .status, snapshot := snapshot,
    last := LastCommand.none, protocolErrors := 0 }

/-- The Alarm Unit after a cold reset (R194). -/
def AlarmUnit.reset : AlarmUnit := { conditions := 0, latches := 0, mask1 := 0, mask2 := 0 }

/-- The node at the end of a cold reset, for the straps and input levels read then and the bytes of the STATUS snapshot
latched then. The clock reads 0 (R1). -/
def State.coldReset (nodeStraps : BitVec 4) (addressStraps : BitVec 2) (levelA levelB levelConfirm : Bool)
    (snapshot : List Byte) : State :=
  { clock := 0, nodeStraps := nodeStraps, addressOffset := addressStraps, cfg := Cfg.none,
    pulse := PulseCounter.reset levelA levelB, sensor := SensorBus.reset, conv := ConversionUnit.reset,
    tally := TallyLine.reset, peers := PeerTable.reset, dose := DoseAccounting.reset,
    pump := PumpSequencer.reset levelConfirm, filter := ConcentrationFilter.reset, store := IntervalStore.reset,
    port := SupervisoryPort.reset snapshot, alarm := AlarmUnit.reset, pending := [], choices := 0 }

/-- The 337 bytes of the STATUS snapshot that a cold reset with node number 1 and address offset 0 latches (R177, R198):
all 0 but for the node number, the two SUBSTITUTED kinds, the absent last-listed time, the next sequence and the
cursor. -/
def State.resetSnapshot : List Byte :=
  List.replicate 4 0 ++ [1] ++ List.replicate 89 0 ++ [2] ++ List.replicate 4 0 ++ [2] ++ List.replicate 46 0 ++
    [255, 255, 255, 255] ++ List.replicate 158 0 ++ [1] ++ List.replicate 3 0 ++ [1] ++ List.replicate 24 0

/-- The machine right after a cold reset: every item at the value its chapter gives. The straps stand at node number 1 and
address offset 0 and the three pulse inputs low (log entry 1: the manual gives the straps and inputs no value). -/
def State.reset : State := State.coldReset 0 0 false false false State.resetSnapshot

end Sys2Proof.Machine
end

