-- ==== Sys2Proof/Machine/Ops.lean ====
section
/-! DEFINITION. The shared operations: replacing one block of the state, reading elapsed time, placing numbers in bytes
(R195) and the CRC-16 of frames and of the configuration block (R54). -/

namespace Sys2Proof.Machine

/-! ## Replacing one block of the state -/

/-- The state with the node's clock replaced. -/
def State.withClock (s : State) (x : Time) : State := { s with clock := x }

/-- The state with the configuration in force replaced. -/
def State.withCfg (s : State) (x : Cfg) : State := { s with cfg := x }

/-- The state with the Pulse Counter replaced. -/
def State.withPulse (s : State) (x : PulseCounter) : State := { s with pulse := x }

/-- The state with the Sensor Bus Master replaced. -/
def State.withSensor (s : State) (x : SensorBus) : State := { s with sensor := x }

/-- The state with the Conversion Unit replaced. -/
def State.withConv (s : State) (x : ConversionUnit) : State := { s with conv := x }

/-- The state with the Tally Line Interface replaced. -/
def State.withTally (s : State) (x : TallyLine) : State := { s with tally := x }

/-- The state with the Peer Table replaced. -/
def State.withPeers (s : State) (x : PeerTable) : State := { s with peers := x }

/-- The state with Dose Accounting replaced. -/
def State.withDose (s : State) (x : DoseAccounting) : State := { s with dose := x }

/-- The state with the Pump Sequencer replaced. -/
def State.withPump (s : State) (x : PumpSequencer) : State := { s with pump := x }

/-- The state with the Concentration Filter replaced. -/
def State.withFilter (s : State) (x : ConcentrationFilter) : State := { s with filter := x }

/-- The state with the Interval Store replaced. -/
def State.withStore (s : State) (x : IntervalStore) : State := { s with store := x }

/-- The state with the Supervisory Port replaced. -/
def State.withPort (s : State) (x : SupervisoryPort) : State := { s with port := x }

/-- The state with the Alarm Unit replaced. -/
def State.withAlarm (s : State) (x : AlarmUnit) : State := { s with alarm := x }

/-- The state with the queue replaced. -/
def State.withPending (s : State) (x : List Instr) : State := { s with pending := x }

/-- The state with the count of choices of order replaced. -/
def State.withChoices (s : State) (x : Nat) : State := { s with choices := x }

/-! ## Time -/

/-- The milliseconds from `since` to `now` on the node's own clock, which counts modulo 2^64 (R1). -/
def elapsed (now since : Time) : Nat := (now - since).toNat

/-- A timer that runs from `since` has run for at least `span` ms. -/
def hasRun (now : Time) (since : Option Time) (span : Nat) : Bool :=
  match since with
  | some t => span ≤ elapsed now t
  | none => false

/-- The instant one `span` after `t`. -/
def after (t : Time) (span : Nat) : Time := t + BitVec.ofNat 64 span

/-- The schedule of a timer whose expiry is taken: the next span begins one `span` after the last began (R2, R56, R147,
R161), whatever the instant at which the expiry is taken. -/
def reschedule (since : Option Time) (span : Nat) : Option Time := since.map fun t => after t span

/-! ## Numbers in bytes -/

/-- The low `k` bytes of `n`, most significant first (R195). -/
def bigEndian : (k : Nat) → (n : Nat) → List Byte
  | 0, _ => []
  | k + 1, n => BitVec.ofNat 8 (n / 256 ^ k) :: bigEndian k n

/-- The number that bytes hold, most significant first (R195). -/
def fromBytes (bytes : List Byte) : Nat := bytes.foldl (fun n b => n * 256 + b.toNat) 0

/-- The number in the `width` bytes at `offset` of a layout. -/
def fieldAt (bytes : List Byte) (offset width : Nat) : Nat := fromBytes ((bytes.drop offset).take width)

/-- The byte at `offset` of a layout. -/
def byteAt (bytes : List Byte) (offset : Nat) : Byte := bytes.getD offset 0

/-- A mark as a bit of weight `weight` in a marks byte (R195). -/
def markBit (mark : Bool) (weight : Nat) : Nat := if mark then weight else 0

/-- A number held at the most that 4 bytes carry (R195: elapsed times and ages). -/
def held32 (n : Nat) : Nat := min n 4294967295

/-! ## CRC-16 -/

/-- One shift of the CRC register (R54): the generator without its x^16 term is 1021 in base 16. -/
def crcShift (r : BitVec 16) : BitVec 16 := if r.msb then (r <<< 1) ^^^ 0x1021#16 else r <<< 1

/-- The CRC register after one more byte (R54). -/
def crcByte (r : BitVec 16) (b : Byte) : BitVec 16 :=
  let x := r ^^^ (b.zeroExtend 16 <<< 8)
  crcShift (crcShift (crcShift (crcShift (crcShift (crcShift (crcShift (crcShift x)))))))

/-- The CRC-16 of R54 over bytes in the order they are sent: initial value all ones, not inverted. -/
def crc16 (bytes : List Byte) : BitVec 16 := bytes.foldl crcByte 0xFFFF#16

end Sys2Proof.Machine
end

