-- ==== Sys2Proof/Machine/Flags.lean ====
section
/-! DEFINITION. The Alarm Unit's conditions and latches (R189 to R192) and the flag set of the current interval (R163). -/

namespace Sys2Proof.Machine

/-! ## Conditions and latches -/

/-- The bit of a condition in the masks, the latches and the conditions: bit n − 1 for condition n (R189, R195). -/
def Cond.index : Cond → Nat
  | .pressSubst => 0
  | .tempSubst => 1
  | .pulseMismatch => 2
  | .pulseOverrange => 3
  | .peerLost => 4
  | .peerImplausible => 5
  | .unheard => 6
  | .alone => 7
  | .duplicateNumber => 8
  | .linkFault => 9
  | .pumpFault => 10
  | .pumpStrained => 11
  | .throttled => 12
  | .concLow => 13
  | .undosed => 14
  | .debtReleased => 15

/-- The set that holds one condition. -/
def Cond.bit (c : Cond) : BitVec 16 := 1#16 <<< c.index

/-- The conditions that are level conditions (R189); the others are events. -/
def levelConditions : BitVec 16 :=
  Cond.pressSubst.bit ||| Cond.tempSubst.bit ||| Cond.unheard.bit ||| Cond.alone.bit ||| Cond.duplicateNumber.bit |||
    Cond.linkFault.bit ||| Cond.pumpFault.bit ||| Cond.pumpStrained.bit ||| Cond.throttled.bit ||| Cond.concLow.bit

/-- A level condition is true (R189). -/
def State.isTrue (s : State) (c : Cond) : Bool := s.alarm.conditions.getLsbD c.index

/-- A condition's latch is set (R190). -/
def State.isLatched (s : State) (c : Cond) : Bool := s.alarm.latches.getLsbD c.index

/-- An event condition is raised: its latch is set (R190). -/
def raise (c : Cond) (s : State) : State := s.withAlarm { s.alarm with latches := s.alarm.latches ||| c.bit }

/-- A level condition rises from false to true: it becomes true and its latch is set (R190). -/
def rise (c : Cond) (s : State) : State :=
  s.withAlarm { s.alarm with conditions := s.alarm.conditions ||| c.bit, latches := s.alarm.latches ||| c.bit }

/-- A level condition falls: it becomes false and leaves its latch as it stands (R190). -/
def fall (c : Cond) (s : State) : State :=
  s.withAlarm { s.alarm with conditions := s.alarm.conditions &&& ~~~c.bit }

/-- The owner of a level condition reports its state: a change from false to true is a rising, a change from true to
false a falling, and no change is no report (R189). -/
def setLevel (c : Cond) (v : Bool) (s : State) : State :=
  if v then (if s.isTrue c then s else rise c s) else (if s.isTrue c then fall c s else s)

/-- An alarm line is asserted while at least one condition has its latch set and its mark set in the mask (R192). -/
def lineAsserted (latches mask : BitVec 16) : Bool := latches &&& mask != 0

/-- The ALARM1 line is asserted (R192). -/
def State.alarm1Asserted (s : State) : Bool := lineAsserted s.alarm.latches s.alarm.mask1

/-- The ALARM2 line is asserted (R192). -/
def State.alarm2Asserted (s : State) : Bool := lineAsserted s.alarm.latches s.alarm.mask2

/-! ## Flags of the current interval -/

/-- The bit of a flag in the flag set (R198). -/
def Flag.index : Flag → Nat
  | .heldP => 0
  | .substitutedP => 1
  | .clampedP => 2
  | .heldT => 3
  | .substitutedT => 4
  | .clampedT => 5
  | .pulseMismatch => 6
  | .pulseOverrange => 7
  | .peerLost => 8
  | .peerImplausible => 9
  | .solo => 10
  | .parked => 11
  | .throttled => 12
  | .pumpFault => 13
  | .pumpStrained => 14
  | .debtReleased => 15
  | .undosed => 16

/-- The set that holds one flag. -/
def Flag.bit (f : Flag) : BitVec 17 := 1#17 <<< f.index

/-- A change of the current interval's figures; without a current interval there is nothing to change (R160, R163). -/
def onInterval (f : CurrentInterval → CurrentInterval) (s : State) : State :=
  s.withStore { s.store with current := s.store.current.map f }

/-- A flag is set in the current interval, where it stays until the close (R163). -/
def setFlag (f : Flag) (s : State) : State := onInterval (fun i => { i with flags := i.flags ||| f.bit }) s

/-- A flag is set where `v` holds. -/
def setFlagIf (v : Bool) (f : Flag) (s : State) : State := if v then setFlag f s else s

/-- An event condition is raised where `v` holds, and its flag is set with it (R11, R91). -/
def raiseIf (v : Bool) (c : Cond) (f : Flag) (s : State) : State := if v then raise c (setFlag f s) else s

/-- A level condition with a flag of its own: the flag is set at the rising (R138, R154). -/
def setLevelFlag (c : Cond) (f : Flag) (v : Bool) (s : State) : State :=
  setLevel c v (setFlagIf (v && !s.isTrue c) f s)

end Sys2Proof.Machine
end

