-- ==== Sys2Proof/Machine/Share.lean ====
section
/-! DEFINITION. What the blocks read of one another: the entries and counts of the Peer Table (R68), the advertised
capacity (R137), the share denominators (R81) and the share (R97). -/

namespace Sys2Proof.Machine

/-- The node number: the straps' setting plus 1 (R66). -/
def State.nodeNumber (s : State) : Nat := s.nodeStraps.toNat + 1

/-! ## The Peer Table's entries -/

/-- The entry of node `n` (R68). -/
def PeerTable.entry (t : PeerTable) (n : Nat) : Entry := t.entries.getD (n - 1) Entry.absent

/-- The table with the entry of node `n` replaced. -/
def PeerTable.setEntry (t : PeerTable) (n : Nat) (e : Entry) : PeerTable := { t with entries := t.entries.set (n - 1) e }

/-- An entry is LIVE. -/
def Entry.isLive (e : Entry) : Bool :=
  match e.status with
  | .live _ => true
  | _ => false

/-- An entry is LIVE and its last frame said SHARED. -/
def Entry.isLiveShared (e : Entry) : Bool :=
  match e.status with
  | .live f => f.shared
  | _ => false

/-- What an entry adds to the share denominator of a SHARED node (R81). -/
def Entry.sharedCapacity (e : Entry) : Nat :=
  match e.status with
  | .live f => if f.shared then f.capacity else 0
  | _ => 0

/-- The LIVE count (R68). -/
def PeerTable.liveCount (t : PeerTable) : Nat := t.entries.countP Entry.isLive

/-- The LIVE SHARED count (R68). -/
def PeerTable.liveSharedCount (t : PeerTable) : Nat := t.entries.countP Entry.isLiveShared

/-- The sum of the advertised capacities of the LIVE entries whose last frame said SHARED (R81). -/
def PeerTable.sharedCapacity (t : PeerTable) : Nat := (t.entries.map Entry.sharedCapacity).sum

/-- The heard set: bit n − 1 for each node n that is LIVE (R57, R80, R196). -/
def heardBits : (entries : List Entry) → (bit : BitVec 16) → BitVec 16
  | [], _ => 0
  | e :: rest, bit => (if e.isLive then bit else 0) ||| heardBits rest (bit <<< 1)

/-- The heard set of the table. -/
def PeerTable.heardSet (t : PeerTable) : BitVec 16 := heardBits t.entries 1

/-! ## The own mode -/

/-- The mode is SOLO with any cause. -/
def Mode.isSolo : Mode → Bool
  | .solo _ => true
  | _ => false

/-- The mode is SOLO or SHARED: frames are built (R56), and strokes may start (R132). -/
def Mode.isActive : Mode → Bool
  | .solo _ => true
  | .shared => true
  | _ => false

/-- The mode is SOLO with a cause other than DUPLICATE (R83, R84). -/
def Mode.maySwitch : Mode → Bool
  | .solo .duplicate => false
  | .solo _ => true
  | _ => false

/-! ## Capacity, denominators and share -/

/-- The advertised capacity (R137). -/
def State.advertised (s : State) : Nat :=
  if s.pump.condition = .available then
    if s.pump.strained then max 1 (s.cfg.capacityClass / 2) else s.cfg.capacityClass
  else 0

/-- The share denominator formed from a table (R81): in PARKED and CONFIG none is formed, and it reads 0 (R92). -/
def State.denominatorFrom (s : State) (t : PeerTable) : Nat :=
  match s.peers.mode with
  | .shared => s.advertised + t.sharedCapacity
  | .solo _ => s.advertised
  | .parked => 0
  | .config => 0

/-- The share denominator S (R81). -/
def State.denominator (s : State) : Nat := s.denominatorFrom s.peers

/-- The denominator S′ of an adoption event: S with the releasing peer's entry left out (R81). -/
def State.denominatorWithout (s : State) (n : Nat) : Nat := s.denominatorFrom (s.peers.setEntry n Entry.absent)

/-- The share of R97 for own capacity `c` and denominator `d`, Q16. -/
def shareOf (c d : Nat) : Nat := if c = 0 then 0 else c * 65536 / d

/-- The share that a charge taken now uses (R97). -/
def State.share (s : State) : Nat := shareOf s.advertised s.denominator

/-- The ceiling, ceiling × Sm (R94). -/
def State.ceilingDebt (s : State) : Nat := s.cfg.ceiling * s.cfg.strokeMass

/-! ## Litre figures -/

/-- A litre figure: the whole litres of a cumulative in µL (R43, R163). -/
def litres (volume : BitVec 64) : BitVec 64 := volume / 1000000

end Sys2Proof.Machine
end

