-- ==== Sys2Proof/Machine/Debt.lean ====
section
/-! DEFINITION. The operations on the dose debt that several commands share: every change of the debt (R136), charges
(R100 to R104), adoptions (R105), releases (R107), surrenders (R109), debits (R110), and the amounts handed to the
Concentration Filter (R148, R149). -/

namespace Sys2Proof.Machine

/-! ## The pump's marks and conditions -/

/-- The Pump Sequencer reports PUMP FAULT and PUMP STRAINED with their flags (R138). -/
def reportPump (s : State) : State :=
  let s1 := setLevelFlag .pumpFault .pumpFault (s.pump.condition == .fault) s
  setLevelFlag .pumpStrained .pumpStrained (s1.pump.condition == .available && s1.pump.strained) s1

/-- The watermark tests on the debt as it stands (R136). -/
def testWatermarks (s : State) : State :=
  let unit := s.cfg.strokeMass
  if s.dose.debt < s.cfg.hysteresis * unit then s.withPump { s.pump with behind := false, strained := false }
  else
    s.withPump { s.pump with behind := s.pump.behind || s.cfg.high * unit ≤ s.dose.debt,
                             strained := s.pump.strained || s.cfg.strain * unit ≤ s.dose.debt }

/-- The debt takes a value: at each change of the debt BEHIND and STRAINED are tested (R136). -/
def setDebt (debt : Nat) (s : State) : State :=
  if debt = s.dose.debt then s
  else reportPump (testWatermarks (s.withDose { s.dose with debt := debt }))

/-- The pump condition takes a value (section 7.2). A stroke in flight stops counting toward priming at the first
departure from PRIMING (R124). -/
def setCondition (c : PumpCondition) (s : State) : State :=
  let departs := s.pump.condition == .priming && c != .priming
  let stroke := if departs then s.pump.stroke.map fun k => { k with counts := false } else s.pump.stroke
  reportPump (s.withPump { s.pump with condition := c, stroke := stroke })

/-! ## Released odorant -/

/-- An amount is added to the released counter and to the interval's released figure (R107, R113). -/
def addReleased (x : Nat) (s : State) : State :=
  onInterval (fun i => { i with released := i.released + BitVec.ofNat 64 x })
    (s.withDose { s.dose with released := s.dose.released + BitVec.ofNat 64 x })

/-- Release takes the whole debt (R107); a release of a debt of 0 changes nothing and raises nothing. -/
def release (s : State) : State :=
  if s.dose.debt = 0 then s
  else setDebt 0 (addReleased s.dose.debt (raise .debtReleased (setFlag .debtReleased s)))

/-- An amount is taken into debt under the clamp at the ceiling; the overflow is released (R104). -/
def takeIntoDebt (x : Nat) (s : State) : State :=
  if s.dose.debt + x ≤ s.ceilingDebt then setDebt (s.dose.debt + x) s
  else
    setDebt s.ceilingDebt
      (addReleased (s.dose.debt + x - s.ceilingDebt) (raise .debtReleased (setFlag .debtReleased s)))

/-! ## Charges -/

/-- The divisor of a charge: 10^7 × 65,536 (R100). -/
def chargeUnit : Nat := 655360000000

/-- The exact sum of a charge with owed term `w` (R100). -/
def State.chargeSum (s : State) (w : Nat) : Nat := w * s.share + s.dose.r

/-- A computed charge lands: in waived while THROTTLED (R103), otherwise in charged and in debt (R104). -/
def landCharge (x : Nat) (s : State) : State :=
  if s.filter.throttled then
    onInterval (fun i => { i with waived := i.waived + BitVec.ofNat 64 x })
      (s.withDose { s.dose with waived := s.dose.waived + BitVec.ofNat 64 x })
  else
    takeIntoDebt x
      (onInterval (fun i => { i with charged := i.charged + BitVec.ofNat 64 x })
        (s.withDose { s.dose with charged := s.dose.charged + BitVec.ofNat 64 x }))

/-- A charge event with owed term `w` at the share of R97 (R100). -/
def charge (w : Nat) (s : State) : State :=
  landCharge (s.chargeSum w / chargeUnit) (s.withDose { s.dose with r := s.chargeSum w % chargeUnit })

/-- A peer-volume charge event carrying a litre delta (R102). -/
def peerCharge (deltaL : Nat) (s : State) : State := charge (deltaL * 1000000 * s.cfg.doseTarget) s

/-- The own run's gas can be taken by no pump this node counts (R99). -/
def State.goesUndosed (s : State) : Bool :=
  match s.peers.mode with
  | .parked => true
  | .solo _ => s.advertised == 0
  | .shared => s.denominator == 0
  | .config => true

/-- The exact sum of an undosed amount (R101). -/
def State.undosedSum (s : State) (vb : Nat) : Nat := vb * s.cfg.doseTarget * 65536 + s.dose.ru

/-- An own cycle event sent to undosed (R101). -/
def addUndosed (vb : Nat) (s : State) : State :=
  let x := s.undosedSum vb / chargeUnit
  raiseIf (0 < vb) .undosed .undosed
    (onInterval (fun i => { i with undosed := i.undosed + BitVec.ofNat 64 x })
      (s.withDose { s.dose with undosed := s.dose.undosed + BitVec.ofNat 64 x, ru := s.undosedSum vb % chargeUnit }))

/-- The own cycle event is recorded as the last one (R115). -/
def recordOwnCycle (c : OwnCycle) (s : State) : State := s.withDose { s.dose with lastOwn := some c }

/-- An own cycle event (R99): undosed, or a charge with owed term Vb × Dt. -/
def ownCycleEvent (number : BitVec 32) (vb : Nat) (s : State) : State :=
  if s.goesUndosed then
    recordOwnCycle { number := number, vb := vb, disposition := .undosed, amount := s.undosedSum vb / chargeUnit }
      (addUndosed vb s)
  else
    recordOwnCycle
      { number := number, vb := vb, disposition := if s.filter.throttled then .waived else .charged,
        amount := s.chargeSum (vb * s.cfg.doseTarget) / chargeUnit }
      (charge (vb * s.cfg.doseTarget) s)

/-! ## Adoption, surrender and debit -/

/-- An adoption event, taken while the node is SHARED (R105). -/
def adopt (kind : AdoptionKind) (peer offered denominator : Nat) (s : State) : State :=
  let x := shareOf s.advertised denominator
  let amount := offered * x / 65536
  takeIntoDebt amount
    (onInterval (fun i => { i with adopted := i.adopted + BitVec.ofNat 64 amount })
      (s.withDose { s.dose with
        adopted := s.dose.adopted + BitVec.ofNat 64 amount,
        lastAdoption := some { kind := kind, peer := peer, offered := offered, denominator := denominator, share := x,
                               adopted := amount } }))

/-- A surrender event carrying the last transmitted SHARED-frame debt (R109). -/
def surrender (s : State) : State :=
  let x := min s.dose.debt s.peers.lastSharedDebt.toNat
  setDebt (s.dose.debt - x)
    (onInterval (fun i => { i with surrendered := i.surrendered + BitVec.ofNat 64 x })
      (s.withDose { s.dose with surrendered := s.dose.surrendered + BitVec.ofNat 64 x }))

/-- Odorant seen delivered into the header reaches the filter (R148, R149). -/
def addDelivered (x : Nat) (s : State) : State :=
  s.withFilter { s.filter with delivered := s.filter.delivered + BitVec.ofNat 64 x }

/-- Header volume in µL reaches the filter and, in the same step, the header cumulative (R148, R149, R163). -/
def addHeader (volume : Nat) (s : State) : State :=
  (s.withFilter { s.filter with volume := s.filter.volume + BitVec.ofNat 64 volume }).withStore
    { s.store with header := s.store.header + BitVec.ofNat 64 volume }

/-- A debit: a dosing stroke has confirmed (R110). -/
def debit (s : State) : State :=
  let mass := s.cfg.strokeMass
  let d := min mass s.dose.debt
  setDebt (s.dose.debt - d)
    (addDelivered mass
      (onInterval (fun i => { i with delivered := i.delivered + BitVec.ofNat 64 mass })
        (s.withDose { s.dose with
          debited := s.dose.debited + BitVec.ofNat 64 d,
          excess := s.dose.excess + BitVec.ofNat 64 (mass - d),
          delivered := s.dose.delivered + BitVec.ofNat 64 mass })))

end Sys2Proof.Machine
end

