-- ==== Sys2Proof/Machine/Stroke.lean ====
section
/-! DEFINITION. The start conditions of a stroke (R132 to R134), the start itself, and the test of the conditions that a
command makes where it has changed one of their inputs. -/

namespace Sys2Proof.Machine

/-- The required spacing (R134). -/
def State.requiredSpacing (s : State) : Nat :=
  if s.pump.condition = .priming ∨ s.pump.behind then s.cfg.minSpacing else s.cfg.pacedSpacing

/-- The time since the last stroke start is at least the required spacing (R132, condition 5). -/
def State.spacingPassed (s : State) : Bool :=
  match s.pump.lastStart with
  | some t => s.requiredSpacing ≤ elapsed s.clock t
  | none => true

/-- A stroke is wanted: a dosing stroke by the debt, or a prime stroke (R132, condition 3). -/
def State.strokeWanted (s : State) : Bool :=
  (s.pump.condition == .available && !s.filter.throttled && s.cfg.low * s.cfg.strokeMass ≤ s.dose.debt) ||
    (s.pump.condition == .priming && 0 < s.pump.primeRemaining)

/-- The start conditions of R132, in its order. -/
def State.mayStart (s : State) : Bool :=
  s.pump.stroke.isNone && s.peers.mode.isActive && s.strokeWanted && s.pump.history.length < s.cfg.windowCap &&
    s.spacingPassed

/-- A stroke starts (R124, R132): it takes its kind, its start time joins the history, and FILL begins. -/
def beginStroke (s : State) : State :=
  let prime := s.pump.condition == .priming
  s.withPump { s.pump with
    stroke := some { prime := prime, start := s.clock, confirmed := false, counts := prime, phase := .fill,
                     phaseStart := s.clock },
    history := s.pump.history ++ [s.clock], lastStart := some s.clock, started := s.pump.started + 1 }

/-- The inputs of the start conditions that a command can change (R132): the phase, the own mode, the condition, THROTTLED,
the debt with the BEHIND mark that follows it, and the stroke history. -/
def State.startInputs (s : State) : Bool × Mode × PumpCondition × Bool × Nat × Bool × Nat :=
  (s.pump.stroke.isNone, s.peers.mode, s.pump.condition, s.filter.throttled, s.dose.debt, s.pump.behind,
    s.pump.history.length)

/-- The start conditions are tested: where they hold, a stroke starts (R132). -/
def testStart (s : State) : State := if s.mayStart then beginStroke s else s

/-- Where a change has taken the node from `s` to `t`, the start conditions are tested if one of their inputs has changed
(R132; log entry 7). -/
def startIfChanged (s t : State) : State := if t.startInputs = s.startInputs then t else testStart t

end Sys2Proof.Machine
end

