-- ==== Sys2Proof/Machine/Modes.lean ====
section
/-! DEFINITION. Changes of the own mode and of the LIVE count (R82 to R91). -/

namespace Sys2Proof.Machine

/-- The own mode takes a value: UNHEARD and ALONE follow the cause, and the solo or parked flag is set on entry (R91). -/
def setMode (m : Mode) (s : State) : State :=
  setFlagIf (m == .parked) .parked
    (setFlagIf m.isSolo .solo
      (setLevel .alone (m == .solo .alone)
        (setLevel .unheard (m == .solo .unheard) (s.withPeers { s.peers with mode := m }))))

/-- A SHARED node goes to SOLO for a cause and surrenders (R87). The start conditions are tested at the change of the own
mode, before the surrender cuts the debt (R132; log entry 7). -/
def leaveShared (cause : SoloCause) (s : State) : State := surrender (startIfChanged s (setMode (.solo cause) s))

/-- A SHARED node whose table holds no LIVE entry goes to SOLO(ALONE) (R86). -/
def aloneIfNone (s : State) : State :=
  if s.peers.mode = .shared ∧ s.peers.liveCount = 0 then leaveShared .alone s else s

/-- At a change of the LIVE count the current interval keeps the least count (R91, R163). -/
def noteLiveCount (s : State) : State := onInterval (fun i => { i with leastLive := min i.leastLive s.peers.liveCount }) s

/-- The switch pending mark takes a value (R83). -/
def setSwitchPending (v : Bool) (s : State) : State := s.withPeers { s.peers with switchPending := v }

end Sys2Proof.Machine
end

