-- ==== Sys2Proof/WellFormed.lean ====
section
/-! DEFINITION. Which commands the part can be given: the operands that the rule of each row admits. `exec` has a
defined answer for every command, well formed or not; these checks say which are spelled as the manual spells them. -/

namespace Sys2Proof

/-- The receiver keeps at most 28 bytes, and marks a frame over-long only at a further one (R52). -/
def frameWellFormed (bytes : List Byte) (overLong : Bool) : Bool :=
  bytes.length ≤ 28 && (!overLong || bytes.length == 28)

/-- A node number is 1 to 16 (R53, R68, R174). -/
def nodeWellFormed (n : Nat) : Bool := 1 ≤ n && n ≤ 16

/-- A byte offset of the configuration block is 0 to 150 (R174, R197). -/
def offsetWellFormed (o : BitVec 16) : Bool := o.toNat < 151

/-- The command codes are 1 to 8 (R198). -/
def isCommandCode (c : Byte) : Bool := 1 ≤ c.toNat && c.toNat ≤ 8

/-- The operands of a command are among those the rule of its row admits. -/
def Instr.wellFormed : Instr → Bool
  | .coldReset _ _ _ _ _ => true
  | .pulseEdge _ => true
  | .cycleTimerExpiry => true
  | .busReleased => true
  | .busHeld => true
  | .stretchNotice _ => true
  | .stretchAbort => true
  | .addressNack _ => true
  | .transactionEnd _ _ => true
  | .recoveryEnd => true
  | .receiverSynced => true
  | .frameEnd bytes _ overLong => frameWellFormed bytes overLong
  | .tallyTimerExpiry => true
  | .lineIdle => true
  | .holdoffEnd => true
  | .deferral => true
  | .collision => true
  | .frameSent => true
  | .peerExpiry node => nodeWellFormed node
  | .unheard => true
  | .strokeStart => true
  | .fillEnd => true
  | .driveEnd => true
  | .confirmationPulse => true
  | .confirmWindowExpiry => true
  | .recoverEnd => true
  | .historyEntryLeaves => true
  | .spacingRunsOut => true
  | .periodTimerExpiry => true
  | .lowDwellExpiry => true
  | .intervalTimerExpiry => true
  | .status => true
  | .totals => true
  | .peer node => nodeWellFormed node.toNat
  | .record _ => true
  | .nextRecord => true
  | .config offset => offsetWellFormed offset
  | .configWrite offset data _ => offsetWellFormed offset && !data.isEmpty
  | .unrecognisedSelector => true
  | .transactionAbandoned => true
  | .start => true
  | .hold => true
  | .resume => true
  | .pumpReset => true
  | .leave => true
  | .join => true
  | .mark => true
  | .clearLatches => true
  | .unknown code => !isCommandCode code
  | .commandSelector => true
  | .writeEndedPartWay => true

end Sys2Proof
end

