-- ==== Sys2Proof/Machine/Operands.lean ====
section
/-! DEFINITION. The operands that arrive as bytes: the frames of the tally line (R53, R54, R196), the fields of the
configuration block (R197) and the write transactions of the supervisory port (R174, R183, R198), read and written by
their layouts. -/

namespace Sys2Proof.Machine

/-! ## Frames -/

/-- The bytes of a TALLY frame before its CRC (R196). -/
def tallyPayload (f : TallyFrame) : List Byte :=
  [f.node, 1, f.sequence, f.intervalCode, if f.shared then 1 else 0, f.capacity] ++ bigEndian 4 f.litres.toNat ++
    bigEndian 4 f.delivered.toNat ++ bigEndian 4 f.released.toNat ++ bigEndian 4 f.debt.toNat ++
    bigEndian 2 f.target.toNat ++ bigEndian 2 f.heard.toNat

/-- The bytes of a LEAVE frame before its CRC (R196). -/
def leavePayload (f : LeaveFrame) : List Byte := [f.node, 2, f.sequence] ++ bigEndian 4 f.released.toNat

/-- The bytes of a frame before its CRC. -/
def Frame.payload : Frame → List Byte
  | .tally f => tallyPayload f
  | .leave f => leavePayload f

/-- The bytes of a frame as they are sent: its payload and the CRC of the payload, the more significant byte first
(R54, R196). -/
def Frame.bytes (f : Frame) : List Byte := f.payload ++ bigEndian 2 (crc16 f.payload).toNat

/-- The ten bits of a byte on the tally line: a start bit (dominant, 0), the data bits least significant first, a stop bit
(recessive, 1) (R51). -/
def byteBits (b : Byte) : List Bool := false :: (List.range 8).map b.getLsbD ++ [true]

/-- The bits of a frame in the order in which SENDING drives them (R51); true is recessive. -/
def Frame.bits (f : Frame) : List Bool := f.bytes.flatMap byteBits

/-- The number of bytes of a frame of this kind (R53, check 5). -/
def frameLength (kind : Byte) : Nat := if kind = 1 then 28 else 9

/-- The fields of the 28 bytes of a TALLY (R196). -/
def decodeTally (b : List Byte) : TallyFrame :=
  { node := byteAt b 0, sequence := byteAt b 2, intervalCode := byteAt b 3, shared := byteAt b 4 == 1,
    capacity := byteAt b 5, litres := BitVec.ofNat 32 (fieldAt b 6 4), delivered := BitVec.ofNat 32 (fieldAt b 10 4),
    released := BitVec.ofNat 32 (fieldAt b 14 4), debt := BitVec.ofNat 32 (fieldAt b 18 4),
    target := BitVec.ofNat 16 (fieldAt b 22 2), heard := BitVec.ofNat 16 (fieldAt b 24 2) }

/-- The fields of the 9 bytes of a LEAVE (R196). -/
def decodeLeave (b : List Byte) : LeaveFrame :=
  { node := byteAt b 0, sequence := byteAt b 2, released := BitVec.ofNat 32 (fieldAt b 3 4) }

/-- What the receiver makes of a frame at its end (R53). -/
inductive Verdict where
  | bad (cause : BadCause)
  | good (frame : Frame)
  deriving DecidableEq, Repr

/-- Check 7 of R53: interval code 1 to 8, mode SOLO or SHARED, advertised capacity 0 to 15. -/
def tallyFieldsGood (b : List Byte) : Bool :=
  (1 ≤ (byteAt b 3).toNat && (byteAt b 3).toNat ≤ 8) && (byteAt b 4).toNat ≤ 1 && (byteAt b 5).toNat ≤ 15

/-- The checks of R53 in their order: the first that fails names the bad cause. -/
def judge (b : List Byte) (framingError overLong : Bool) : Verdict :=
  if framingError then .bad .framing
  else if b.length < 3 || overLong then .bad .length
  else if crc16 (b.take (b.length - 2)) ≠ BitVec.ofNat 16 (fieldAt b (b.length - 2) 2) then .bad .crc
  else if byteAt b 1 ≠ 1 ∧ byteAt b 1 ≠ 2 then .bad .kind
  else if b.length ≠ frameLength (byteAt b 1) then .bad .length
  else if (byteAt b 0).toNat < 1 ∨ 16 < (byteAt b 0).toNat then .bad .node
  else if byteAt b 1 = 1 then
    if tallyFieldsGood b then .good (.tally (decodeTally b)) else .bad .field
  else .good (.leave (decodeLeave b))

/-- The node number a frame bears. -/
def Frame.node : Frame → Byte
  | .tally f => f.node
  | .leave f => f.node

/-- The sequence a frame carries. -/
def Frame.sequence : Frame → Byte
  | .tally f => f.sequence
  | .leave f => f.sequence

/-! ## The configuration block -/

/-- The length of the configuration block (R197). -/
def blockLength : Nat := 151

/-- The fields of the configuration block at their offsets and widths (R197). -/
def readBlock (b : List Byte) : Cfg :=
  { pulseWeight := fieldAt b 0 4, dualPulse := fieldAt b 4 1, mismatchLimit := fieldAt b 5 1,
    pressureAddress := fieldAt b 6 1, temperatureAddress := fieldAt b 7 1, plo := fieldAt b 8 4, phi := fieldAt b 12 4,
    tlo := fieldAt b 16 2, thi := fieldAt b 18 2, pressureFallback := fieldAt b 20 4,
    temperatureFallback := fieldAt b 24 2, holdCycles := fieldAt b 26 1, basePressure := fieldAt b 27 4,
    baseTemperature := fieldAt b 31 2, pointCount := fieldAt b 33 1,
    points := (List.range 8).map fun i => (fieldAt b (34 + 8 * i) 4, fieldAt b (38 + 8 * i) 4),
    doseTarget := fieldAt b 98 2, strokeMass := fieldAt b 100 4, capacityClass := fieldAt b 104 1,
    low := fieldAt b 105 1, high := fieldAt b 106 1, strain := fieldAt b 107 1, ceiling := fieldAt b 108 1,
    hysteresis := fieldAt b 109 1, fillTime := fieldAt b 110 2, driveTime := fieldAt b 112 2,
    confirmWindow := fieldAt b 114 2, recoverTime := fieldAt b 116 2, minSpacing := fieldAt b 118 2,
    pacedSpacing := fieldAt b 120 4, windowLength := fieldAt b 124 2, windowCap := fieldAt b 126 1,
    missLimit := fieldAt b 127 1, primeCount := fieldAt b 128 1, tallyInterval := fieldAt b 129 2,
    filterShift := fieldAt b 131 1, filterPeriod := fieldAt b 132 1, vmin := fieldAt b 133 4,
    upperLimit := fieldAt b 137 2, throttleHysteresis := fieldAt b 139 2, lowerLimit := fieldAt b 141 2,
    lowDwell := fieldAt b 143 1, intervalLength := fieldAt b 144 1, mask1 := fieldAt b 145 2, mask2 := fieldAt b 147 2,
    crc := fieldAt b 149 2 }

/-- A stored configuration byte replaces the byte at its offset (R178). -/
def storeBytes (block : List Byte) (offset : Nat) : (data : List Byte) → List Byte
  | [] => block
  | d :: rest => storeBytes (block.set offset d) (offset + 1) rest

/-! ## Write transactions of the supervisory port -/

/-- The code of a selector (R198). -/
def Selector.code : Selector → Byte
  | .status => 1
  | .totals => 2
  | .peer _ => 3
  | .record _ => 4
  | .nextRecord => 5
  | .config _ => 6
  | .command => 7

/-- The bytes of a selector with its parameter, most significant byte first (R174). -/
def Selector.bytes (s : Selector) : List Byte :=
  s.code ::
    match s with
    | .status => []
    | .totals => []
    | .peer node => [node]
    | .record sequence => bigEndian 4 sequence.toNat
    | .nextRecord => []
    | .config offset => bigEndian 2 offset.toNat
    | .command => []

/-- The command codes (R198). -/
def codeStart : Byte := 1
/-- The code of HOLD. -/
def codeHold : Byte := 2
/-- The code of RESUME. -/
def codeResume : Byte := 3
/-- The code of PUMP RESET. -/
def codePumpReset : Byte := 4
/-- The code of LEAVE. -/
def codeLeave : Byte := 5
/-- The code of JOIN. -/
def codeJoin : Byte := 6
/-- The code of MARK. -/
def codeMark : Byte := 7
/-- The code of CLEAR LATCHES. -/
def codeClearLatches : Byte := 8

/-- The command that a code names, or UNKNOWN with the code as received (R183, R198). -/
def commandOf (code : Byte) : Instr :=
  if code = codeStart then .start
  else if code = codeHold then .hold
  else if code = codeResume then .resume
  else if code = codePumpReset then .pumpReset
  else if code = codeLeave then .leave
  else if code = codeJoin then .join
  else if code = codeMark then .mark
  else if code = codeClearLatches then .clearLatches
  else .unknown code

/-- How a write transaction ends while the node takes part in it: with a STOP or a repeated START (R174), or cut off by one
of the faults of R175. -/
inductive WriteEnd where
  | stopped
  | cut
  deriving DecidableEq, Repr

/-- What the end of a transaction adds once its last byte stands between two items: a cut is counted (R175). -/
def WriteEnd.whole : WriteEnd → List Instr
  | .stopped => []
  | .cut => [.transactionAbandoned]

/-- What the end of a transaction adds part-way through a parameter: either end is counted once (R174, R175). R174 does not
name the end between a selector byte and the first byte of its parameter; the model takes it as part-way (DESIGN CHOICE, log
entry 26). -/
def WriteEnd.partWay : WriteEnd → List Instr
  | .stopped => [.writeEndedPartWay]
  | .cut => [.transactionAbandoned]

/-- The bytes after a place where the table of R174 allows no more: the first of them is not acknowledged, and ends the
node's part in the transaction. -/
def readExtra (e : WriteEnd) : (rest : List Byte) → List Instr
  | [] => e.whole
  | _ :: _ => [.unrecognisedSelector]

/-- The bytes after the code of a PEER selector (R174). None at all is the model's choice: part-way (log entry 26). -/
def readPeer (e : WriteEnd) : (rest : List Byte) → List Instr
  | [] => e.partWay
  | node :: rest => .peer node :: (if nodeWellFormed node.toNat then readExtra e rest else [])

/-- The bytes after the code of a RECORD selector (R174). None at all is the model's choice: part-way (log entry 26). -/
def readRecord (e : WriteEnd) : (rest : List Byte) → List Instr
  | a :: b :: c :: d :: rest => .record (BitVec.ofNat 32 (fromBytes [a, b, c, d])) :: readExtra e rest
  | _ => e.partWay

/-- The bytes after the code of a CONFIG selector (R174, R178). Data bytes make it a CONFIG_WRITE. None at all is the model's
choice: part-way (log entry 26). -/
def readConfig (e : WriteEnd) : (rest : List Byte) → List Instr
  | a :: b :: data =>
    let offset := BitVec.ofNat 16 (fromBytes [a, b])
    if offsetWellFormed offset = false then [.config offset]
    else if data = [] then .config offset :: e.whole
    else .configWrite offset data (e == .stopped) :: e.whole
  | _ => e.partWay

/-- The bytes after the code of a COMMAND selector (R174, R183). -/
def readCommand (e : WriteEnd) : (rest : List Byte) → List Instr
  | [] => .commandSelector :: e.whole
  | code :: rest => commandOf code :: readExtra e rest

/-- The commands that the bytes of a write transaction after its address byte spell, in the order in which they take effect:
the first byte selects (R174, R198), and a transaction of its address alone spells none. -/
def readWrite (e : WriteEnd) : (bytes : List Byte) → List Instr
  | [] => e.whole
  | code :: rest =>
    if code = 1 then .status :: readExtra e rest
    else if code = 2 then .totals :: readExtra e rest
    else if code = 3 then readPeer e rest
    else if code = 4 then readRecord e rest
    else if code = 5 then .nextRecord :: readExtra e rest
    else if code = 6 then readConfig e rest
    else if code = 7 then readCommand e rest
    else [.unrecognisedSelector]

/-- The bytes of the write transaction that spells a command of the port, where one transaction spells it alone. -/
def writeBytes : Instr → Option (List Byte)
  | .status => some Selector.status.bytes
  | .totals => some Selector.totals.bytes
  | .peer node => some (Selector.peer node).bytes
  | .record sequence => some (Selector.record sequence).bytes
  | .nextRecord => some Selector.nextRecord.bytes
  | .config offset => some (Selector.config offset).bytes
  | .configWrite offset data true => some ((Selector.config offset).bytes ++ data)
  | .commandSelector => some Selector.command.bytes
  | .start => some (Selector.command.bytes ++ [codeStart])
  | .hold => some (Selector.command.bytes ++ [codeHold])
  | .resume => some (Selector.command.bytes ++ [codeResume])
  | .pumpReset => some (Selector.command.bytes ++ [codePumpReset])
  | .leave => some (Selector.command.bytes ++ [codeLeave])
  | .join => some (Selector.command.bytes ++ [codeJoin])
  | .mark => some (Selector.command.bytes ++ [codeMark])
  | .clearLatches => some (Selector.command.bytes ++ [codeClearLatches])
  | .unknown code => some (Selector.command.bytes ++ [code])
  | _ => none

/-- The bytes of a write transaction reach the node: the commands they spell join the queue. -/
def State.withWrite (s : State) (e : WriteEnd) (bytes : List Byte) : State :=
  s.withPending (s.pending ++ readWrite e bytes)

end Sys2Proof.Machine
end

