-- ==== Sys2Proof/Machine/Line.lean ====
section
/-! DEFINITION. Building, replacing and abandoning frames (R56 to R64), and the report of a sent frame (R84). -/

namespace Sys2Proof.Machine

/-- The holdoff in bit times (R59). -/
def holdoffLength (node attempt : Nat) : Nat := node * 8 + attempt * 96

/-- The TALLY built at this instant (R57). -/
def State.tallyNow (s : State) : TallyFrame :=
  { node := BitVec.ofNat 8 s.nodeNumber, sequence := s.tally.sequence,
    intervalCode := BitVec.ofNat 8 (s.cfg.tallyInterval / 250),
    shared := s.peers.mode == .shared || (s.peers.mode.isSolo && s.peers.switchPending),
    capacity := BitVec.ofNat 8 s.advertised, litres := (litres s.conv.base).setWidth 32,
    delivered := s.dose.delivered.setWidth 32, released := s.dose.released.setWidth 32,
    debt := BitVec.ofNat 32 s.dose.debt, target := BitVec.ofNat 16 s.cfg.doseTarget, heard := s.peers.heardSet }

/-- The LEAVE built at this instant (R58). -/
def State.leaveNow (s : State) : LeaveFrame :=
  { node := BitVec.ofNat 8 s.nodeNumber, sequence := s.tally.sequence, released := s.dose.released.setWidth 32 }

/-- A frame built takes the next sequence and becomes pending with attempt index 0; the transmitter goes to HOLDOFF on
an idle line and to DEFER otherwise (R57, R59). -/
def makePending (f : Frame) (s : State) : State :=
  s.withTally { s.tally with
    pending := some { frame := f, builtShared := s.peers.mode == .shared },
    sequence := s.tally.sequence + 1, attempt := 0,
    transmitter := if s.tally.lineIdle then .holdoff else .defer,
    holdoff := holdoffLength s.nodeNumber 0 }

/-- The frame due is built. -/
def build (k : Owed) (s : State) : State :=
  match k with
  | .none => s
  | .tally => makePending (.tally s.tallyNow) s
  | .leave => makePending (.leave s.leaveNow) s

/-- LINK FAULT is true while the consecutive-abandoned count is 8 or more (R63). -/
def testLinkFault (s : State) : State := setLevel .linkFault (8 ≤ s.tally.consecutive) s

/-- A frame is abandoned, as replaced or after four attempts (R60, R62, R63). -/
def countAbandoned (replaced : Bool) (s : State) : State :=
  testLinkFault (s.withTally { s.tally with
    abandoned := s.tally.abandoned + 1,
    replaced := if replaced then s.tally.replaced + 1 else s.tally.replaced,
    consecutive := min 255 (s.tally.consecutive + 1) })

/-- A frame falls due (R56, R58, R62): owed while SENDING, where a LEAVE owed wins; in place of a pending frame in DEFER or
HOLDOFF; not built in SILENT (R64). -/
def fallDue (k : Owed) (s : State) : State :=
  match s.tally.transmitter with
  | .sending => s.withTally { s.tally with owed := if s.tally.owed = .leave then .leave else k }
  | .empty => build k s
  | .defer => build k (countAbandoned true s)
  | .holdoff => build k (countAbandoned true s)
  | .silent => s

/-- The transmitter is silenced until the next cold reset (R64). -/
def silence (s : State) : State :=
  s.withTally { s.tally with transmitter := .silent, pending := none, owed := .none, attempt := 0 }

/-- The sending has ended and an owed frame is no longer owed: it is built now (R62). -/
def buildOwed (s : State) : State := build s.tally.owed (s.withTally { s.tally with owed := .none })

/-- A sent SHARED frame built in SOLO takes the node to SHARED; with no LIVE entry left it ends at once in SOLO(ALONE)
(R84). -/
def switchToShared (debt : BitVec 32) (s : State) : State :=
  let s1 := startIfChanged s (setMode .shared s)
  aloneIfNone (s1.withPeers { s1.peers with switchPending := false, lastSharedDebt := debt, lastListed := some s1.clock })

/-- The Interface reports a sent frame to the Peer Table (R84). -/
def reportSent (p : Pending) (s : State) : State :=
  match p.frame with
  | .leave _ => s
  | .tally f =>
    if f.shared then
      match s.peers.mode with
      | .shared => s.withPeers { s.peers with lastSharedDebt := f.debt }
      | .solo .duplicate => s
      | .solo _ => if p.builtShared then s else switchToShared f.debt s
      | .parked => s
      | .config => s
    else s

end Sys2Proof.Machine
end

