-- ==== Sys2Proof/Machine/Peer.lean ====
section
/-! DEFINITION. The Peer Table (chapter 5): taking a frame, expiry, the UNHEARD test and DUPLICATE. -/

namespace Sys2Proof.Machine

/-! ## What a frame tells -/

/-- The heard set of a TALLY contains this node's number (R80). -/
def State.listedIn (s : State) (f : TallyFrame) : Bool := f.heard.getLsbD (s.nodeNumber - 1)

/-- A listing frame moves the last-listed time on (R80) and, in SOLO other than DUPLICATE, sets the switch pending mark
(R83). -/
def noteListing (listed : Bool) (s : State) : State :=
  if listed then
    s.withPeers { s.peers with lastListed := some s.clock,
                               switchPending := s.peers.switchPending || s.peers.mode.maySwitch }
  else s

/-- The fields of a LIVE entry that a TALLY sets (R69, R71, R72). -/
def State.fieldsOf (s : State) (f : TallyFrame) (sharedDebt : Option (BitVec 32)) : LiveFields :=
  { shared := f.shared, sequence := f.sequence, interval := f.intervalCode.toNat * 250, capacity := f.capacity.toNat,
    litres := f.litres, delivered := f.delivered, released := f.released, debt := f.debt, sharedDebt := sharedDebt,
    target := f.target, differs := f.target.toNat != s.cfg.doseTarget, listed := s.listedIn f }

/-- The state with the entry of node `n` replaced. -/
def setEntry (n : Nat) (e : Entry) (s : State) : State := s.withPeers (s.peers.setEntry n e)

/-- Admission of a peer whose entry is ABSENT, EXPIRED or LEFT (R71). -/
def admission (f : TallyFrame) (s : State) : State :=
  let n := f.node.toNat
  let e := s.peers.entry n
  noteListing (s.listedIn f)
    (noteLiveCount
      (setEntry n { e with status := .live (s.fieldsOf f (if f.shared then some f.debt else none)),
                           lastHeard := s.clock } s))

/-- The sequence numbers skipped between two accepted frames (R70). -/
def skippedFrames (sequence last : Byte) : BitVec 32 := (sequence - last - 1).zeroExtend 32

/-- The deltas of an accepted TALLY are implausible (R72). -/
def implausibleTally (dL dD dR : BitVec 32) : Bool :=
  100000 < dL.toNat || 10000000 < dD.toNat || 40000000 < dR.toNat ||
    (2147483648 ≤ dL.toNat || 2147483648 ≤ dD.toNat || 2147483648 ≤ dR.toNat)

/-- The released delta of a LEAVE is implausible (R78). -/
def implausibleLeave (dR : BitVec 32) : Bool := 40000000 < dR.toNat || 2147483648 ≤ dR.toNat

/-- The entry of a LIVE peer takes every field of an accepted TALLY, plausible or not (R72, R73). -/
def updateEntry (f : TallyFrame) (last : LiveFields) (implausible : Bool) (s : State) : State :=
  let n := f.node.toNat
  let e := s.peers.entry n
  noteListing (s.listedIn f)
    (setEntry n { status := .live (s.fieldsOf f (if f.shared then some f.debt else last.sharedDebt)),
                  lastHeard := s.clock, lost := e.lost + skippedFrames f.sequence last.sequence,
                  implausible := if implausible then e.implausible + 1 else e.implausible } s)

/-- PEER IMPLAUSIBLE is raised, with its flag (R73). -/
def raiseImplausible (s : State) : State := raise .peerImplausible (setFlag .peerImplausible s)

/-- An adoption event handed by the Peer Table with the S′ it forms (R81); only while the node is SHARED (R98). The start
conditions are tested at this change of the debt (R139). -/
def handAdoption (kind : AdoptionKind) (n amount : Nat) (s : State) : State :=
  if s.peers.mode = .shared then startIfChanged s (adopt kind n amount (s.denominatorWithout n) s) else s

/-- The peer-volume charge event of R74, with the start conditions tested at this change of the debt (R139). -/
def handCharge (last now : Bool) (dL : BitVec 32) (s : State) : State :=
  if s.peers.mode = .shared ∧ last ∧ now then startIfChanged s (peerCharge dL.toNat s) else s

/-- The adoption of a plausible TALLY: a released delta between SHARED frames (R75), or a change from SHARED to SOLO at the
larger of the last SHARED-frame debt and ΔR (R76). -/
def handTallyAdoption (n : Nat) (last : LiveFields) (now : Bool) (dR : Nat) (s : State) : State :=
  if last.shared then
    if now then (if 0 < dR then handAdoption .released n dR s else s)
    else handAdoption .modeChange n (max (last.sharedDebt.getD 0).toNat dR) s
  else s

/-- An accepted TALLY for a LIVE entry (R72 to R77). -/
def acceptTally (f : TallyFrame) (last : LiveFields) (s : State) : State :=
  let n := f.node.toNat
  let dL := f.litres - last.litres
  let dD := f.delivered - last.delivered
  let dR := f.released - last.released
  if implausibleTally dL dD dR then
    handTallyAdoption n last f.shared 0 (raiseImplausible (updateEntry f last true s))
  else
    addDelivered dD.toNat
      (addHeader (dL.toNat * 1000000)
        (handTallyAdoption n last f.shared dR.toNat
          (handCharge last.shared f.shared dL (updateEntry f last false s))))

/-- A TALLY taken against the entry of its node number (R70). -/
def takeTally (f : TallyFrame) (s : State) : State :=
  match (s.peers.entry f.node.toNat).status with
  | .live last => if f.sequence = last.sequence then s else acceptTally f last s
  | _ => admission f s

/-- An accepted LEAVE for a LIVE entry (R78). -/
def acceptLeave (f : LeaveFrame) (last : LiveFields) (s : State) : State :=
  let n := f.node.toNat
  let e := s.peers.entry n
  let dR := f.released - last.released
  let bad := implausibleLeave dR
  let s1 := noteLiveCount
    (setEntry n { status := .left, lastHeard := s.clock, lost := e.lost + skippedFrames f.sequence last.sequence,
                  implausible := if bad then e.implausible + 1 else e.implausible } s)
  let s2 :=
    if bad then raiseImplausible s1
    else if 0 < dR.toNat ∧ last.shared then handAdoption .released n dR.toNat s1
    else s1
  aloneIfNone s2

/-- A LEAVE taken against the entry of its node number (R70, R78). -/
def takeLeave (f : LeaveFrame) (s : State) : State :=
  let n := f.node.toNat
  match (s.peers.entry n).status with
  | .live last => if f.sequence = last.sequence then s else acceptLeave f last s
  | _ => setEntry n { s.peers.entry n with status := .left, lastHeard := s.clock } s

/-- A good frame is taken by the Peer Table (R70). -/
def takeFrame (f : Frame) (s : State) : State :=
  match f with
  | .tally f => takeTally f s
  | .leave f => takeLeave f s

/-- A frame bearing the own number that the node did not send (R88): SOLO(DUPLICATE), with a surrender from SHARED, and the
transmitter silenced (R64). -/
def duplicate (s : State) : State :=
  let s1 := if s.peers.mode = .shared then leaveShared .duplicate s else setMode (.solo .duplicate) s
  setLevel .duplicateNumber true (silence (setSwitchPending false s1))

/-- A good frame is counted and delivered (R55). -/
def goodFrame (f : Frame) (s : State) : State :=
  let s1 := s.withTally { s.tally with goodReceived := s.tally.goodReceived + 1 }
  if f.node.toNat = s.nodeNumber then
    let s2 := s1.withTally { s1.tally with ownNumber := s1.tally.ownNumber + 1 }
    if s.tally.transmitter = .silent then s2 else duplicate s2
  else takeFrame f s1

/-- A bad frame is counted with its cause (R53). -/
def badFrame (cause : BadCause) (s : State) : State :=
  s.withTally { s.tally with badReceived := s.tally.badReceived + 1, lastBad := cause }

/-- The frame that ends is the one this node has just sent, every bit read back as sent (R55; log entry 15). While the line
has not been idle since, no other can end, whatever was received; once it has, the bytes kept tell the own frame by the bytes
sent, whatever came after them. -/
def State.isOwnFrame (s : State) (bytes : List Byte) : Bool :=
  match s.tally.ownOnLine with
  | some f => !s.tally.lineIdle || f.bytes.isPrefixOf bytes
  | none => false

/-- FRAME_END (R53, R55): with the receiver on, the frame is judged at the instant the line becomes idle after it. The node's
own frame is not judged, counted or delivered, whatever the checks would find. -/
def execFrameEnd (bytes : List Byte) (framingError overLong : Bool) (s : State) : Host.Outcome State Fault Refusal :=
  if s.tally.receiver = .on then
    let s1 := s.withTally { s.tally with lineIdle := true, ownOnLine := none }
    if s.isOwnFrame bytes then .next s1
    else
      match judge bytes framingError overLong with
      | .bad cause => .next (badFrame cause s1)
      | .good f => .next (startIfChanged s (goodFrame f s1))
  else .next s

/-! ## Expiry and the UNHEARD test -/

/-- The LIVE entry of node `n` has reached its expiry time: four of its advertised intervals since it was heard (R79). -/
def State.peerDue (s : State) (n : Nat) : Bool :=
  match (s.peers.entry n).status with
  | .live f => 4 * f.interval ≤ elapsed s.clock (s.peers.entry n).lastHeard
  | _ => false

/-- The expiry of a LIVE entry (R79), and R86 after it. -/
def expire (n : Nat) (f : LiveFields) (s : State) : State :=
  let s1 := raise .peerLost (setFlag .peerLost
    (noteLiveCount (setEntry n { s.peers.entry n with status := .expired } s)))
  aloneIfNone (if f.shared then handAdoption .expiry n f.debt.toNat s1 else s1)

/-- PEER_EXPIRY (R79). -/
def execPeerExpiry (node : Nat) (s : State) : Host.Outcome State Fault Refusal :=
  match (s.peers.entry node).status with
  | .live f => if s.peerDue node then .next (startIfChanged s (expire node f s)) else .next s
  | _ => .next s

/-- The UNHEARD test (R85). -/
def State.unheardDue (s : State) : Bool :=
  s.peers.mode == .shared && 0 < s.peers.liveSharedCount && hasRun s.clock s.peers.lastListed (8 * s.cfg.tallyInterval)

/-- UNHEARD (R85): the node goes to SOLO(UNHEARD) and surrenders (R87). -/
def execUnheard (s : State) : Host.Outcome State Fault Refusal :=
  if s.unheardDue then .next (startIfChanged s (leaveShared .unheard s)) else .next s

end Sys2Proof.Machine
end

