-- ==== Sys2Proof/Machine/Filter.lean ====
section
/-! DEFINITION. The Concentration Filter (chapter 8): the period's end, the throttle and the low-dwell timer. -/

namespace Sys2Proof.Machine

/-- The period timer has run one filter period (R147). -/
def State.periodDue (s : State) : Bool := hasRun s.clock s.filter.periodStart (s.cfg.filterPeriod * 1000)

/-- A period below Vmin is carried (R150). -/
def carryPeriod (s : State) : State :=
  s.withFilter { s.filter with
    carriedPeriods := s.filter.carriedPeriods + 1, consecutiveCarried := min 65535 (s.filter.consecutiveCarried + 1) }

/-- The unclamped sample of a volume in µL and a delivered mass in µg (R151). -/
def rawSample (volume delivered : Nat) : Nat := delivered * 10000000 / volume

/-- The average after a sample: the arithmetic shift is a division by 2^k rounded toward minus infinity (R152). -/
def nextAverage (average sample shift : Nat) : Nat :=
  ((average : Int) + ((sample : Int) * 256 - (average : Int)) / (2 ^ shift : Nat)).toNat

/-- The sample is taken and the average updated (R151, R152). -/
def takeSample (s : State) : State :=
  let raw := rawSample s.filter.volume.toNat s.filter.delivered.toNat
  let sample := min raw 4000
  s.withFilter { s.filter with
    volume := 0, delivered := 0, sampledPeriods := s.filter.sampledPeriods + 1, consecutiveCarried := 0,
    lastSample := sample, lastClamped := 4000 < raw,
    average := nextAverage s.filter.average sample s.cfg.filterShift }

/-- THROTTLED after an update of the average (R153). -/
def State.throttleNow (s : State) : Bool :=
  if s.filter.throttled then !decide (s.filter.average < (s.cfg.upperLimit - s.cfg.throttleHysteresis) * 256)
  else s.cfg.upperLimit * 256 ≤ s.filter.average

/-- The throttle test: THROTTLED, its condition and its flag (R153, R154). -/
def testThrottle (s : State) : State :=
  setLevelFlag .throttled .throttled s.throttleNow (s.withFilter { s.filter with throttled := s.throttleNow })

/-- The low-dwell test after an update of the average (R155, R156). -/
def testDwell (s : State) : State :=
  if s.filter.average < s.cfg.lowerLimit * 256 then
    if s.filter.dwell = .stopped then s.withFilter { s.filter with dwell := .running s.clock } else s
  else setLevel .concLow false (s.withFilter { s.filter with dwell := .stopped, concLow := false })

/-- The end of a filter period (R150, R151). -/
def periodEnd (s : State) : State :=
  let s1 := s.withFilter { s.filter with periodStart := reschedule s.filter.periodStart (s.cfg.filterPeriod * 1000) }
  if s1.filter.volume.toNat < s1.cfg.vmin * 1000000 then carryPeriod s1 else testDwell (testThrottle (takeSample s1))

/-- PERIOD_TIMER_EXPIRY (R150). -/
def execPeriodTimerExpiry (s : State) : Host.Outcome State Fault Refusal :=
  if s.periodDue then .next (startIfChanged s (periodEnd s)) else .next s

/-- The low-dwell timer has run the low dwell (R155). -/
def State.dwellDue (s : State) : Bool :=
  match s.filter.dwell with
  | .running since => s.cfg.lowDwell * 60000 ≤ elapsed s.clock since
  | _ => false

/-- LOW_DWELL_EXPIRY (R155): the timer expires and CONC LOW becomes true. -/
def execLowDwellExpiry (s : State) : Host.Outcome State Fault Refusal :=
  if s.dwellDue then .next (setLevel .concLow true (s.withFilter { s.filter with dwell := .expired, concLow := true }))
  else .next s

end Sys2Proof.Machine
end

