-- ==== Sys2Proof/Machine/Interval.lean ====
section
/-! DEFINITION. The Interval Store (chapter 9): opening, closing, the ring and its reads. -/

namespace Sys2Proof.Machine

/-- The ring holds at most 128 records (R167). -/
def ringCapacity : Nat := 128

/-- The flags of the level conditions that are true at an opening (R162). -/
def State.openingFlags (s : State) : BitVec 17 :=
  (if s.peers.mode.isSolo then Flag.solo.bit else 0) ||| (if s.peers.mode = .parked then Flag.parked.bit else 0) |||
    (if s.isTrue .pumpFault then Flag.pumpFault.bit else 0) |||
    (if s.isTrue .pumpStrained then Flag.pumpStrained.bit else 0) |||
    (if s.filter.throttled then Flag.throttled.bit else 0)

/-- An interval opens (R162). -/
def openInterval (s : State) : State :=
  s.withStore { s.store with
    current := some
      { openTime := s.clock, startActual := litres s.conv.actual, startBase := litres s.conv.base,
        startHeader := litres s.store.header, cycles := 0, sumPf := 0, sumTf := 0, delivered := 0, charged := 0,
        adopted := 0, released := 0, surrendered := 0, waived := 0, undosed := 0, strokes := 0, missed := 0,
        leastLive := s.peers.liveCount, flags := s.openingFlags } }

/-- An average over the cycles of an interval, 0 without a cycle (R164). -/
def averageOver (sum : BitVec 64) (cycles : BitVec 32) : Nat := if cycles = 0 then 0 else sum.toNat / cycles.toNat

/-- The record that closes an interval (R164). -/
def State.closingRecord (s : State) (cause : CloseCause) (i : CurrentInterval) : IntervalRecord :=
  { sequence := s.store.nextSequence, cause := cause, duration := elapsed s.clock i.openTime / 1000, cycles := i.cycles,
    actual := litres s.conv.actual - i.startActual, base := litres s.conv.base - i.startBase,
    header := litres s.store.header - i.startHeader, delivered := i.delivered, charged := i.charged,
    adopted := i.adopted, released := i.released, surrendered := i.surrendered, waived := i.waived,
    undosed := i.undosed, strokes := i.strokes, missed := i.missed, averagePf := averageOver i.sumPf i.cycles,
    averageTf := averageOver i.sumTf i.cycles, leastLive := i.leastLive, mode := s.peers.mode, flags := i.flags }

/-- A record is appended to the ring; from a ring of 128 the oldest is removed (R167). -/
def appendRecord (ring : List IntervalRecord) (r : IntervalRecord) : List IntervalRecord :=
  if ring.length < ringCapacity then ring ++ [r] else ring.tail ++ [r]

/-- The current interval closes into a record and a new one opens at the same instant (R164). -/
def closeInterval (cause : CloseCause) (s : State) : State :=
  match s.store.current with
  | some i =>
    openInterval (s.withStore { s.store with
      ring := appendRecord s.store.ring (s.closingRecord cause i), nextSequence := s.store.nextSequence + 1 })
  | none => s

/-- The interval timer has run one interval length (R161). -/
def State.intervalDue (s : State) : Bool := hasRun s.clock s.store.timerStart (s.cfg.intervalLength * 60000)

/-- INTERVAL_TIMER_EXPIRY (R164). -/
def execIntervalTimerExpiry (s : State) : Host.Outcome State Fault Refusal :=
  if s.intervalDue then
    .next (closeInterval .timer
      (s.withStore { s.store with timerStart := reschedule s.store.timerStart (s.cfg.intervalLength * 60000) }))
  else .next s

/-! ## Reading the ring -/

/-- The count of records held. -/
def IntervalStore.count (t : IntervalStore) : Nat := t.ring.length

/-- The sequence of the oldest record, n − c modulo 2^32 (R167). -/
def IntervalStore.oldest (t : IntervalStore) : BitVec 32 := t.nextSequence - BitVec.ofNat 32 t.count

/-- The sequence of the newest record, n − 1 modulo 2^32 (R167). -/
def IntervalStore.newest (t : IntervalStore) : BitVec 32 := t.nextSequence - 1

/-- How far a sequence lies behind the newest, modulo 2^32 (R168, R169). -/
def IntervalStore.behind (t : IntervalStore) (q : BitVec 32) : Nat := (t.nextSequence - 1 - q).toNat

/-- The answers to a read of the ring (R168, R169). -/
inductive Answer where
  | record (r : IntervalRecord) (skipped : BitVec 32)
  | notYet
  | gone
  deriving DecidableEq, Repr

/-- The record `d` behind the newest. -/
def IntervalStore.recordBehind (t : IntervalStore) (d : Nat) : Option IntervalRecord := t.ring[t.count - 1 - d]?

/-- The answer to RECORD (R168). -/
def IntervalStore.answerRecord (t : IntervalStore) (q : BitVec 32) : Answer :=
  let d := t.behind q
  if d < t.count then
    match t.recordBehind d with
    | some r => .record r 0
    | none => .gone
  else if 2147483648 ≤ d then .notYet
  else .gone

/-- The answer to NEXT RECORD and the cursor after it (R169). -/
def IntervalStore.answerNext (t : IntervalStore) : Answer × BitVec 32 :=
  let d := t.behind t.cursor
  if d < t.count then
    match t.recordBehind d with
    | some r => (.record r 0, t.cursor + 1)
    | none => (.notYet, t.cursor)
  else if 2147483648 ≤ d then (.notYet, t.cursor)
  else
    match t.ring with
    | r :: _ => (.record r (t.oldest - t.cursor), t.oldest + 1)
    | [] => (.notYet, t.cursor)

end Sys2Proof.Machine
end

