-- ==== Sys2Proof/Machine/Sensor.lean ====
section
/-! DEFINITION. The Sensor Bus Master (chapter 2): polls, transactions, good values and failures, and the values given to
conversion. -/

namespace Sys2Proof.Machine

/-- The state of one transmitter. -/
def SensorBus.of (b : SensorBus) : Quantity → Transmitter
  | .pressure => b.pressure
  | .temperature => b.temperature

/-- The bus with the state of one transmitter replaced. -/
def SensorBus.set (b : SensorBus) (q : Quantity) (t : Transmitter) : SensorBus :=
  match q with
  | .pressure => { b with pressure := t }
  | .temperature => { b with temperature := t }

/-- The state with one transmitter's state replaced. -/
def setTransmitter (q : Quantity) (t : Transmitter) (s : State) : State := s.withSensor (s.sensor.set q t)

/-- The transmitter whose transaction is running; none while no poll runs (R16, R24). -/
def SensorBus.active (b : SensorBus) : Option Quantity :=
  if b.pressure.phase ≠ .idle then some .pressure
  else if b.temperature.phase ≠ .idle then some .temperature
  else none

/-- The place of a phase in a transaction; also its code (R199). -/
def TxnPhase.code : TxnPhase → Nat
  | .idle => 0
  | .startCheck => 1
  | .addressWrite => 2
  | .pointer => 3
  | .addressRead => 4
  | .data => 5
  | .stop => 6
  | .recovery => 7

/-- The transaction has sent its START and is in ADDRESS WRITE to STOP, where a stretch or hold is measured (R22). -/
def TxnPhase.inTransfer (p : TxnPhase) : Bool := 2 ≤ p.code && p.code ≤ 6

/-- The phase that a command names. -/
def phaseOf : TransferPhase → TxnPhase
  | .addressWrite => .addressWrite
  | .pointer => .pointer
  | .addressRead => .addressRead
  | .data => .data
  | .stop => .stop

/-- The phase in which a byte is refused (R21). R22 does not name the phase in which the STOP after a not-acknowledge is held;
the model keeps it in this one (DESIGN CHOICE, log entry 27). -/
def nackPhase : NackByte → TxnPhase
  | .addressWrite => .addressWrite
  | .pointer => .pointer
  | .addressRead => .addressRead

/-- The cause of a refused byte: ADDRESS NACK for either address byte, POINTER NACK for the pointer (R21). -/
def nackCause : NackByte → FailCause
  | .addressWrite => .addressNack
  | .pointer => .pointerNack
  | .addressRead => .addressNack

/-- A transaction that stands in phase `p` can come to stand in the transfer phase `q`: it is in the transfer and not past
`q`. A command that names a phase carries the transaction there, over the acknowledged bytes between (log entry 6). -/
def TxnPhase.reaches (p q : TxnPhase) : Bool := p.inTransfer && p.code ≤ q.code

/-! ## Transactions and polls -/

/-- A transaction begins in START CHECK, with its stretch notice cleared (R19, R22). -/
def beginTransaction (q : Quantity) (s : State) : State :=
  setTransmitter q { s.sensor.of q with phase := .startCheck, checkStart := s.clock, stretchNotice := false } s

/-- A transaction is over: after the pressure transaction the temperature transaction begins, and after that the poll is
over (R20). -/
def endTransaction (q : Quantity) (s : State) : State :=
  let s1 := setTransmitter q { s.sensor.of q with phase := .idle } s
  match q with
  | .pressure => beginTransaction .temperature s1
  | .temperature => s1

/-- A failed transaction is recorded (R26). -/
def recordFailure (q : Quantity) (cause : FailCause) (s : State) : State :=
  setTransmitter q { s.sensor.of q with failures := (s.sensor.of q).failures + 1, lastCause := cause } s

/-- A transaction is abandoned with a cause and moves to RECOVERY (R19, R23). -/
def enterRecovery (q : Quantity) (cause : FailCause) (s : State) : State :=
  let s1 := recordFailure q cause s
  setTransmitter q { s1.sensor.of q with phase := .recovery } s1

/-- A poll falls due: it starts with the pressure transaction, or is skipped and counted while one runs (R16, R17). -/
def pollDue (s : State) : State :=
  if s.sensor.active = none then beginTransaction .pressure s
  else s.withSensor { s.sensor with skipped := s.sensor.skipped + 1 }

/-- The lower clamp limit of a quantity. -/
def Cfg.clampLow (c : Cfg) : Quantity → Nat
  | .pressure => c.plo
  | .temperature => c.tlo

/-- The upper clamp limit of a quantity. -/
def Cfg.clampHigh (c : Cfg) : Quantity → Nat
  | .pressure => c.phi
  | .temperature => c.thi

/-- The fallback of a quantity. -/
def Cfg.fallback (c : Cfg) : Quantity → Nat
  | .pressure => c.pressureFallback
  | .temperature => c.temperatureFallback

/-- A value bounded by the clamp limits (R25). -/
def clampValue (low high v : Nat) : Nat := if v < low then low else if high < v then high else v

/-- A good value is stored (R25). -/
def storeGood (q : Quantity) (v : Nat) (s : State) : State :=
  let t := s.sensor.of q
  let low := s.cfg.clampLow q
  let high := s.cfg.clampHigh q
  setTransmitter q { t with lastGood := some (clampValue low high v), clamped := decide (v < low) || decide (high < v),
                            age := 0, sampled := true, good := t.good + 1 } s

/-- The four bytes of a transaction that reached STOP are judged (R20, R26). -/
def judgeBytes (q : Quantity) (value : BitVec 24) (status : Byte) (s : State) : State :=
  let s1 := setTransmitter q { s.sensor.of q with lastRaw := value } s
  if status.getLsbD 0 then storeGood q value.toNat s1 else recordFailure q .notValid s1

/-! ## What the master sends -/

/-- The configured bus address of a transmitter (R20). -/
def Cfg.busAddress (c : Cfg) : Quantity → Nat
  | .pressure => c.pressureAddress
  | .temperature => c.temperatureAddress

/-- The bytes the master sends in a transaction with a transmitter, in order: the address byte in the write direction, the
register pointer 0, and after the repeated START the address byte in the read direction (R18, R20). -/
def Cfg.masterBytes (c : Cfg) (q : Quantity) : List Byte :=
  [BitVec.ofNat 8 (2 * c.busAddress q), 0, BitVec.ofNat 8 (2 * c.busAddress q + 1)]

/-! ## Values given at a cycle end -/

/-- The value and kind given for a quantity (R27). -/
def State.given (s : State) (q : Quantity) : Given :=
  let t := s.sensor.of q
  match t.sampled, t.lastGood with
  | true, some v =>
    if t.age = 0 then { value := v, kind := .fresh }
    else if t.age ≤ s.cfg.holdCycles then { value := v, kind := .held }
    else { value := s.cfg.fallback q, kind := .substituted }
  | _, _ => { value := s.cfg.fallback q, kind := .substituted }

/-- The clamped mark that goes with a value given (R27). -/
def State.givenClamped (s : State) (q : Quantity) : Bool := (s.given q).kind != .substituted && (s.sensor.of q).clamped

/-- The flags of a quantity: held, substituted, clamped. -/
def heldFlag : Quantity → Flag
  | .pressure => .heldP
  | .temperature => .heldT

/-- The substituted flag of a quantity. -/
def substitutedFlag : Quantity → Flag
  | .pressure => .substitutedP
  | .temperature => .substitutedT

/-- The clamped flag of a quantity. -/
def clampedFlag : Quantity → Flag
  | .pressure => .clampedP
  | .temperature => .clampedT

/-- The condition that follows the kind of value given for a quantity (R29). -/
def substCond : Quantity → Cond
  | .pressure => .pressSubst
  | .temperature => .tempSubst

/-- The flags and the condition of the value given for a quantity (R29, R30). -/
def reportGiven (q : Quantity) (g : Given) (clamped : Bool) (s : State) : State :=
  setLevel (substCond q) (g.kind == .substituted)
    (setFlagIf (g.kind == .substituted) (substitutedFlag q)
      (setFlagIf (g.kind != .substituted && clamped) (clampedFlag q)
        (setFlagIf (g.kind == .held) (heldFlag q) s)))

/-- The age of a last good value rises by 1 at a cycle end and stays at 255 (R28). -/
def Transmitter.older (t : Transmitter) : Transmitter := { t with age := min 255 (t.age + 1) }

/-- At a cycle end the values are given, reported, and kept as the last given, and both ages rise (R27 to R31). -/
def giveValues (s : State) : State :=
  let p := s.given .pressure
  let t := s.given .temperature
  let s1 := reportGiven .temperature t (s.givenClamped .temperature)
    (reportGiven .pressure p (s.givenClamped .pressure) s)
  s1.withSensor { s1.sensor with givenP := p, givenT := t, pressure := s1.sensor.pressure.older,
                                 temperature := s1.sensor.temperature.older }

/-! ## The commands -/

/-- The phase after this one when nothing goes wrong (R19, R20). STOP is the last of a transaction: TRANSACTION_END leaves
it. -/
def TxnPhase.following : TxnPhase → TxnPhase
  | .idle => .idle
  | .startCheck => .addressWrite
  | .addressWrite => .pointer
  | .pointer => .addressRead
  | .addressRead => .data
  | .data => .stop
  | .stop => .stop
  | .recovery => .recovery

/-- BUS_RELEASED (R19, R20): in START CHECK both lines read high within 50 ms, and the transaction goes to ADDRESS WRITE; in
the transfer the phase's bytes are acknowledged, and it goes on to the next phase (log entry 6). -/
def execBusReleased (s : State) : Host.Outcome State Fault Refusal :=
  match s.sensor.active with
  | some q =>
    let t := s.sensor.of q
    if t.phase = .startCheck ∧ 50 < elapsed s.clock t.checkStart then .next s
    else .next (setTransmitter q { t with phase := t.phase.following } s)
  | none => .next s

/-- A line has stayed low for the 50 ms of START CHECK (R19). -/
def State.busHeldDue (s : State) : Bool :=
  match s.sensor.active with
  | some q => (s.sensor.of q).phase == .startCheck && 50 ≤ elapsed s.clock (s.sensor.of q).checkStart
  | none => false

/-- BUS_HELD (R19): the transaction fails with BUS HELD and moves to RECOVERY. -/
def execBusHeld (s : State) : Host.Outcome State Fault Refusal :=
  match s.sensor.active with
  | some q => if s.busHeldDue then .next (enterRecovery q .busHeld s) else .next s
  | none => .next s

/-- STRETCH_NOTICE (R22): a stretch or hold in this phase has lasted 10 ms. The notice is set, and counted, at most once in
a transaction. A hold of the STOP after a not-acknowledge is given with the phase of the refused byte (DESIGN CHOICE, log entry
27). -/
def execStretchNotice (phase : TransferPhase) (s : State) : Host.Outcome State Fault Refusal :=
  match s.sensor.active with
  | some q =>
    let t := s.sensor.of q
    if t.phase.reaches (phaseOf phase) then
      .next (setTransmitter q { t with
        phase := phaseOf phase, stretchNotice := true,
        stretchNotices := if t.stretchNotice then t.stretchNotices else t.stretchNotices + 1 } s)
    else .next s
  | none => .next s

/-- STRETCH_ABORT (R22, R23): a stretch or hold has reached 50 ms; the transaction is abandoned and moves to RECOVERY. -/
def execStretchAbort (s : State) : Host.Outcome State Fault Refusal :=
  match s.sensor.active with
  | some q => if (s.sensor.of q).phase.inTransfer then .next (enterRecovery q .stretchAbort s) else .next s
  | none => .next s

/-- ADDRESS_NACK (R21): STOP is sent and the transaction ends failed. The row is the end, so a hold of that STOP (R22) comes
before it and leaves the transaction in the phase of the refused byte; in DATA or STOP the row has no effect (DESIGN CHOICE,
log entry 27). -/
def execAddressNack (byte : NackByte) (s : State) : Host.Outcome State Fault Refusal :=
  match s.sensor.active with
  | some q =>
    if (s.sensor.of q).phase.reaches (nackPhase byte) then
      .next (endTransaction q (recordFailure q (nackCause byte) s))
    else .next s
  | none => .next s

/-- TRANSACTION_END (R20): the STOP of a full transaction has been sent and its bytes are judged. -/
def execTransactionEnd (value : BitVec 24) (status : Byte) (s : State) : Host.Outcome State Fault Refusal :=
  match s.sensor.active with
  | some q =>
    if (s.sensor.of q).phase.inTransfer then .next (endTransaction q (judgeBytes q value status s)) else .next s
  | none => .next s

/-- RECOVERY_END (R23): the final STOP of the recovery ends the transaction. -/
def execRecoveryEnd (s : State) : Host.Outcome State Fault Refusal :=
  match s.sensor.active with
  | some q => if (s.sensor.of q).phase = .recovery then .next (endTransaction q s) else .next s
  | none => .next s

end Sys2Proof.Machine
end

