-- ==== Sys2Proof/Machine/Layout.lean ====
section
/-! DEFINITION. The bytes of the supervisory blocks (R198) with the codes of R199, in the encodings of R195. -/

namespace Sys2Proof.Machine

/-! ## Codes (R199) -/

/-- The mode code. -/
def Mode.code : Mode → Nat
  | .config => 0
  | .solo .starting => 1
  | .solo .unheard => 2
  | .solo .alone => 3
  | .solo .duplicate => 4
  | .shared => 5
  | .parked => 6

/-- The entry state code; the own number's state OWN is 4. -/
def EntryStatus.code : EntryStatus → Nat
  | .absent => 0
  | .live _ => 1
  | .expired => 2
  | .left => 3

/-- The frame kind code of the pending frame. -/
def kindCode : Option Pending → Nat
  | none => 0
  | some { frame := .tally _, builtShared := _ } => 1
  | some { frame := .leave _, builtShared := _ } => 2

/-- The transmitter state code. -/
def TxState.code : TxState → Nat
  | .empty => 0
  | .defer => 1
  | .holdoff => 2
  | .sending => 3
  | .silent => 4

/-- The receiver code. -/
def RxState.code : RxState → Nat
  | .off => 0
  | .syncing => 1
  | .on => 2

/-- The last bad cause code. -/
def BadCause.code : BadCause → Nat
  | .none => 0
  | .framing => 1
  | .length => 2
  | .crc => 3
  | .kind => 4
  | .node => 5
  | .field => 6

/-- The last failure cause code. -/
def FailCause.code : FailCause → Nat
  | .none => 0
  | .addressNack => 1
  | .pointerNack => 2
  | .busHeld => 3
  | .stretchAbort => 4
  | .notValid => 5

/-- The value kind code. -/
def ValueKind.code : ValueKind → Nat
  | .fresh => 0
  | .held => 1
  | .substituted => 2

/-- The pump condition code. -/
def PumpCondition.code : PumpCondition → Nat
  | .unset => 0
  | .none => 1
  | .priming => 2
  | .available => 3
  | .held => 4
  | .fault => 5

/-- The stroke phase code; IDLE is the absence of a stroke. -/
def strokePhaseCode : Option Stroke → Nat
  | none => 0
  | some k =>
    match k.phase with
    | .fill => 1
    | .drive => 2
    | .confirm => 3
    | .recover => 4

/-- The stroke kind code. -/
def strokeKindCode : Option Stroke → Nat
  | none => 0
  | some k => if k.prime then 1 else 2

/-- The low-dwell state code. -/
def Dwell.code : Dwell → Nat
  | .stopped => 0
  | .running _ => 1
  | .expired => 2

/-- The block state code. -/
def BlockState.code : BlockState → Nat
  | .absent => 0
  | .written => 1
  | .locked => 2

/-- The result code. -/
def CommandResult.code : CommandResult → Nat
  | .none => 0
  | .done => 1
  | .refusedState => 2
  | .refusedValue => 3
  | .unknown => 4

/-- The kind byte of the last-command record (R198). -/
def CommandKind.code : CommandKind → Nat
  | .none => 0
  | .command => 1
  | .configWrite => 2

/-- The own-cycle disposition code. -/
def Disposition.code : Disposition → Nat
  | .charged => 1
  | .waived => 2
  | .undosed => 3

/-- The adoption kind code. -/
def AdoptionKind.code : AdoptionKind → Nat
  | .released => 1
  | .expiry => 2
  | .modeChange => 3

/-- The close cause code (R198). -/
def CloseCause.code : CloseCause → Nat
  | .timer => 1
  | .mark => 2

/-! ## Parts of blocks -/

/-- Two bits as a marks byte, from bit 0 upwards. -/
def marks2 (a b : Bool) : Nat := markBit a 1 + markBit b 2

/-- Three bits as a marks byte. -/
def marks3 (a b c : Bool) : Nat := marks2 a b + markBit c 4

/-- Four bits as a marks byte. -/
def marks4 (a b c d : Bool) : Nat := marks3 a b c + markBit d 8

/-- A counter of 32 bits. -/
def count32 (x : BitVec 32) : List Byte := bigEndian 4 x.toNat

/-- A counter of 64 bits. -/
def count64 (x : BitVec 64) : List Byte := bigEndian 8 x.toNat

/-- A time on the node's clock: its low 32 bits (R195). -/
def time32 (t : Time) : List Byte := bigEndian 4 t.toNat

/-- An elapsed time or an age in 4 bytes (R195). -/
def age32 (n : Nat) : List Byte := bigEndian 4 (held32 n)

/-- The 12 bytes of the last-command record. -/
def lastCommandBytes (c : LastCommand) : List Byte :=
  bigEndian 1 c.kind.code ++ [c.code] ++ bigEndian 1 c.result.code ++ bigEndian 1 c.index ++ time32 c.time ++
    count32 c.count

/-- The 11 bytes of the last cycle record. -/
def cycleRecordBytes (r : CycleRecord) : List Byte :=
  count32 r.number ++ bigEndian 2 r.a ++ bigEndian 2 r.b ++ bigEndian 2 r.n ++
    bigEndian 1 (marks4 r.sourceB r.satA r.satB r.mismatch)

/-- The 24 bytes of one transmitter: the last good value reads 0 while sampled is clear. -/
def transmitterBytes (t : Transmitter) : List Byte :=
  bigEndian 1 t.phase.code ++ bigEndian 4 (if t.sampled then t.lastGood.getD 0 else 0) ++
    bigEndian 1 (marks3 t.clamped t.sampled t.stretchNotice) ++ bigEndian 1 t.age ++ bigEndian 4 t.lastRaw.toNat ++
    bigEndian 1 t.lastCause.code ++ count32 t.good ++ count32 t.failures ++ count32 t.stretchNotices

/-- The 5 bytes of a value given, with its kind. -/
def givenBytes (g : Given) : List Byte := bigEndian 4 g.value ++ bigEndian 1 g.kind.code

/-- The sequence of the pending frame; 0 without one. -/
def pendingSequence : Option Pending → Byte
  | none => 0
  | some p => p.frame.sequence

/-- The 40 bytes of the Tally Line Interface. -/
def tallyBytes (t : TallyLine) : List Byte :=
  bigEndian 1 t.transmitter.code ++ bigEndian 1 (kindCode t.pending) ++ [pendingSequence t.pending] ++
    bigEndian 1 t.attempt ++ [t.sequence] ++ count32 t.sent ++ count32 t.collisions ++ count32 t.abandoned ++
    count32 t.replaced ++ bigEndian 1 t.consecutive ++ count32 t.goodReceived ++ count32 t.badReceived ++
    bigEndian 1 t.lastBad.code ++ count32 t.ownNumber ++ bigEndian 1 t.receiver.code ++ bigEndian 4 0

/-- The time since the last listing, 4,294,967,295 when there is none. -/
def sinceListed (now : Time) : Option Time → List Byte
  | none => bigEndian 4 4294967295
  | some t => age32 (elapsed now t)

/-- The 13 bytes of the Peer Table's own items. -/
def ownModeBytes (s : State) : List Byte :=
  bigEndian 1 s.peers.mode.code ++ bigEndian 1 (markBit s.peers.switchPending 1) ++ count32 s.peers.lastSharedDebt ++
    sinceListed s.clock s.peers.lastListed ++ bigEndian 1 s.peers.liveCount ++ bigEndian 1 s.peers.liveSharedCount ++
    bigEndian 1 s.denominator

/-- One place of the stroke history; 0 where it is unused. -/
def historyPlace (history : List Time) (i : Nat) : List Byte :=
  match history[i]? with
  | some t => time32 t
  | none => bigEndian 4 0

/-- The 16 places of the stroke history, oldest first. -/
def historyBytes (history : List Time) : List Byte := (List.range 16).flatMap (historyPlace history)

/-- The 6 bytes of the stroke in flight. -/
def strokeBytes (k : Option Stroke) : List Byte :=
  bigEndian 1 (strokeKindCode k) ++
    (match k with
     | none => bigEndian 4 0 ++ bigEndian 1 0
     | some k => time32 k.start ++ bigEndian 1 (marks2 k.confirmed k.counts))

/-- The 101 bytes of the Pump Sequencer. -/
def pumpBytes (s : State) : List Byte :=
  bigEndian 1 s.pump.condition.code ++ bigEndian 1 (strokePhaseCode s.pump.stroke) ++ strokeBytes s.pump.stroke ++
    bigEndian 1 s.pump.history.length ++ historyBytes s.pump.history ++
    (match s.pump.lastStart with
     | some t => time32 t
     | none => bigEndian 4 0) ++
    bigEndian 1 (marks3 s.pump.behind s.pump.strained s.pump.lastStart.isSome) ++ bigEndian 1 s.pump.missCount ++
    bigEndian 1 s.pump.primeRemaining ++ bigEndian 1 s.advertised ++ count32 s.pump.started ++ count32 s.pump.confirmed ++
    count32 s.pump.primed ++ count32 s.pump.missed ++ count32 s.pump.stray

/-- The time to the next expiry of a timer of the given span; 0 while it is stopped. -/
def timeToNext (now : Time) (since : Option Time) (span : Nat) : Nat :=
  match since with
  | some t => span - elapsed now t
  | none => 0

/-- The time a low-dwell timer has run; 0 unless it is running. -/
def dwellElapsed (now : Time) : Dwell → Nat
  | .running since => elapsed now since
  | _ => 0

/-- The 42 bytes of the Concentration Filter. -/
def filterBytes (s : State) : List Byte :=
  bigEndian 4 s.filter.average ++ bigEndian 2 s.filter.lastSample ++
    bigEndian 1 (marks3 s.filter.lastClamped s.filter.throttled s.filter.concLow) ++ count64 s.filter.volume ++
    count64 s.filter.delivered ++ count32 s.filter.sampledPeriods ++ count32 s.filter.carriedPeriods ++
    bigEndian 2 s.filter.consecutiveCarried ++
    age32 (timeToNext s.clock s.filter.periodStart (s.cfg.filterPeriod * 1000)) ++ bigEndian 1 s.filter.dwell.code ++
    age32 (dwellElapsed s.clock s.filter.dwell)

/-- The oldest and newest sequences; 0 when the ring is empty (R171, R195). -/
def ringEnds (t : IntervalStore) : List Byte :=
  if t.count = 0 then bigEndian 8 0 else count32 t.oldest ++ count32 t.newest

/-- The flag set in 3 bytes. -/
def flagBytes (f : BitVec 17) : List Byte := bigEndian 3 f.toNat

/-- The 32 bytes of the Interval Store. -/
def storeBytesOf (s : State) : List Byte :=
  bigEndian 1 s.store.count ++ ringEnds s.store ++ count32 s.store.nextSequence ++ count32 s.store.cursor ++
    (match s.store.current with
     | some i => age32 (elapsed s.clock i.openTime) ++ count32 i.cycles ++ flagBytes i.flags
     | none => bigEndian 11 0) ++
    age32 (timeToNext s.clock s.store.timerStart (s.cfg.intervalLength * 60000))

/-- The 9 bytes of the Alarm Unit (R193). -/
def alarmBytes (a : AlarmUnit) : List Byte :=
  bigEndian 2 a.conditions.toNat ++ bigEndian 2 a.latches.toNat ++ bigEndian 2 a.mask1.toNat ++
    bigEndian 2 a.mask2.toNat ++ bigEndian 1 (marks2 (lineAsserted a.latches a.mask1) (lineAsserted a.latches a.mask2))

/-! ## The blocks -/

/-- STATUS, 337 bytes (R186, R198). -/
def statusBytes (s : State) : List Byte :=
  time32 s.clock ++ bigEndian 1 s.nodeNumber ++ bigEndian 1 s.addressOffset.toNat ++
    bigEndian 1 s.port.blockState.code ++ lastCommandBytes s.port.last ++ count32 s.port.protocolErrors ++
    bigEndian 4 s.pulse.preStart ++ cycleRecordBytes s.pulse.last ++ transmitterBytes s.sensor.pressure ++
    transmitterBytes s.sensor.temperature ++ count32 s.sensor.skipped ++ givenBytes s.sensor.givenP ++
    givenBytes s.sensor.givenT ++ tallyBytes s.tally ++ ownModeBytes s ++ pumpBytes s ++ filterBytes s ++
    storeBytesOf s ++ alarmBytes s.alarm

/-- The last own cycle record, all 0 when there is none. -/
def ownCycleBytes : Option OwnCycle → List Byte
  | none => bigEndian 17 0
  | some c => count32 c.number ++ bigEndian 8 c.vb ++ bigEndian 1 c.disposition.code ++ bigEndian 4 c.amount

/-- The last adoption record, all 0 when there is none. -/
def adoptionBytes : Option Adoption → List Byte
  | none => bigEndian 15 0
  | some a =>
    bigEndian 1 a.kind.code ++ bigEndian 1 a.peer ++ bigEndian 4 a.offered ++ bigEndian 1 a.denominator ++
      bigEndian 4 a.share ++ bigEndian 4 a.adopted

/-- The last conversion record. -/
def conversionBytes (c : ConversionRecord) : List Byte :=
  count32 c.number ++ bigEndian 2 c.n ++ bigEndian 8 c.va ++ bigEndian 4 c.pf ++ bigEndian 1 c.pfKind.code ++
    bigEndian 2 c.tf ++ bigEndian 1 c.tfKind.code ++ bigEndian 4 c.f ++ bigEndian 4 c.c ++ bigEndian 8 c.vb ++
    bigEndian 2 c.q

/-- The share that a charge would use at the snapshot; 0 in CONFIG and PARKED (R115). -/
def State.shareShown (s : State) : Nat := if s.peers.mode.isActive then s.share else 0

/-- TOTALS, 216 bytes (R187, R198). -/
def totalsBytes (s : State) : List Byte :=
  time32 s.clock ++ bigEndian 4 s.dose.debt ++ bigEndian 4 s.ceilingDebt ++ count64 s.dose.charged ++
    count64 s.dose.adopted ++ count64 s.dose.debited ++ count64 s.dose.released ++ count64 s.dose.surrendered ++
    count64 s.dose.waived ++ count64 s.dose.undosed ++ count64 s.dose.delivered ++ count64 s.dose.excess ++
    bigEndian 8 s.dose.r ++ bigEndian 8 s.dose.ru ++ bigEndian 4 s.shareShown ++ ownCycleBytes s.dose.lastOwn ++
    adoptionBytes s.dose.lastAdoption ++ conversionBytes s.conv.last ++ count64 s.conv.actual ++ count64 s.conv.base ++
    count64 (litres s.conv.actual) ++ count64 (litres s.conv.base) ++ bigEndian 4 s.conv.cmin ++ bigEndian 4 s.conv.cmax

/-- The fields that only a LIVE entry shows: bytes 22 to 53 of PEER. -/
def liveBytes (e : Entry) : List Byte :=
  match e.status with
  | .live f =>
    bigEndian 1 (markBit f.shared 1) ++ [f.sequence] ++ bigEndian 2 f.interval ++ bigEndian 1 f.capacity ++
      count32 f.litres ++ count32 f.delivered ++ count32 f.released ++ count32 f.debt ++
      count32 (f.sharedDebt.getD 0) ++ bigEndian 2 f.target.toNat ++
      bigEndian 1 (marks3 f.differs f.listed f.sharedDebt.isSome) ++ time32 (after e.lastHeard (4 * f.interval))
  | _ => bigEndian 32 0

/-- The last heard time and the age; 0 for an ABSENT entry (R92). -/
def heardBytes (now : Time) (e : Entry) : List Byte :=
  match e.status with
  | .absent => bigEndian 8 0
  | _ => time32 e.lastHeard ++ age32 (elapsed now e.lastHeard)

/-- PEER, 54 bytes (R92, R198): for the own number the state OWN and no fields. -/
def peerBytes (s : State) (node : Byte) : List Byte :=
  if node.toNat = s.nodeNumber then time32 s.clock ++ [node] ++ bigEndian 1 4 ++ bigEndian 48 0
  else
    let e := s.peers.entry node.toNat
    time32 s.clock ++ [node] ++ bigEndian 1 e.status.code ++ count32 e.lost ++ count32 e.implausible ++
      heardBytes s.clock e ++ liveBytes e

/-- The interval record, 110 bytes (R198). -/
def intervalRecordBytes (r : IntervalRecord) : List Byte :=
  count32 r.sequence ++ bigEndian 1 r.cause.code ++ bigEndian 2 r.duration ++ count32 r.cycles ++ count64 r.actual ++
    count64 r.base ++ count64 r.header ++ count64 r.delivered ++ count64 r.charged ++ count64 r.adopted ++
    count64 r.released ++ count64 r.surrendered ++ count64 r.waived ++ count64 r.undosed ++ count32 r.strokes ++
    count32 r.missed ++ bigEndian 4 r.averagePf ++ bigEndian 2 r.averageTf ++ bigEndian 1 r.leastLive ++
    bigEndian 1 r.mode.code ++ flagBytes r.flags

/-- The skip count of an answer; 0 unless it is a record. -/
def Answer.skipped : Answer → BitVec 32
  | .record _ k => k
  | .notYet => 0
  | .gone => 0

/-- The answer byte of RECORD and NEXT RECORD. -/
def Answer.code : Answer → Nat
  | .record _ _ => 0
  | .notYet => 1
  | .gone => 2

/-- The record of an answer; all 0 unless it is a record. -/
def Answer.recordBytes : Answer → List Byte
  | .record r _ => intervalRecordBytes r
  | .notYet => bigEndian 110 0
  | .gone => bigEndian 110 0

/-- The answer to RECORD and NEXT RECORD, 128 bytes (R198). -/
def answerBytes (s : State) (a : Answer) : List Byte :=
  time32 s.clock ++ bigEndian 1 a.code ++ bigEndian 1 s.store.count ++ ringEnds s.store ++ count32 a.skipped ++
    a.recordBytes

/-- A CONFIG snapshot: the block from an offset to its end, then the snapshot time (R179, R198). -/
def configBytes (s : State) (offset : Nat) : List Byte := s.port.block.drop offset ++ time32 s.clock

/-- A COMMAND snapshot: its time, then the last-command record (R185, R198). -/
def commandBytes (now : Time) (c : LastCommand) : List Byte := time32 now ++ lastCommandBytes c

end Sys2Proof.Machine
end

