-- ==== Sys2Proof/Machine/Pump.lean ====
section
/-! DEFINITION. The Pump Sequencer (chapter 7): strokes and their outcomes. -/

namespace Sys2Proof.Machine

/-- STROKE_START (R132). -/
def execStrokeStart (s : State) : Host.Outcome State Fault Refusal := .next (testStart s)

/-! ## Phases -/

/-- The time of a phase of a stroke (R124). -/
def Cfg.phaseTime (c : Cfg) : StrokePhase → Nat
  | .fill => c.fillTime
  | .drive => c.driveTime
  | .confirm => c.confirmWindow
  | .recover => c.recoverTime

/-- The stroke in flight stands in a phase whose time has run out (R124). -/
def State.phaseOver (s : State) (p : StrokePhase) : Bool :=
  match s.pump.stroke with
  | some k => k.phase == p && s.cfg.phaseTime p ≤ elapsed s.clock k.phaseStart
  | none => false

/-- The stroke in flight enters a phase at this instant. -/
def enterPhase (p : StrokePhase) (s : State) : State :=
  s.withPump { s.pump with stroke := s.pump.stroke.map fun k => { k with phase := p, phaseStart := s.clock } }

/-! ## Outcomes -/

/-- A confirmed dosing stroke (R129). -/
def confirmDosing (s : State) : State :=
  onInterval (fun i => { i with strokes := i.strokes + 1 })
    (debit (s.withPump { s.pump with confirmed := s.pump.confirmed + 1 }))

/-- A confirmed prime stroke (R129): while it counts, the prime strokes remaining fall, and at 0 the pump is AVAILABLE. -/
def confirmPrime (counts : Bool) (s : State) : State :=
  let s1 := s.withPump { s.pump with primed := s.pump.primed + 1 }
  if counts && s1.pump.condition == .priming then
    let left := s1.pump.primeRemaining - 1
    let s2 := s1.withPump { s1.pump with primeRemaining := left }
    if left = 0 then setCondition .available s2 else s2
  else s1

/-- The stroke in flight confirms at this instant (R129). -/
def confirmStroke (k : Stroke) (s : State) : State :=
  let s1 := s.withPump { s.pump with missCount := 0, stroke := some { k with confirmed := true } }
  if k.prime then confirmPrime k.counts s1 else confirmDosing s1

/-- The pump enters FAULT: the condition changes first, then the whole debt is released (R130). -/
def enterFault (s : State) : State := release (setCondition .fault s)

/-- The stroke in flight has missed (R130). -/
def missStroke (s : State) : State :=
  let s1 := onInterval (fun i => { i with missed := i.missed + 1 })
    (s.withPump { s.pump with missed := s.pump.missed + 1 })
  let more := s1.withPump { s1.pump with missCount := s1.pump.missCount + 1 }
  match s1.pump.condition with
  | .priming => enterFault more
  | .available => if s1.cfg.missLimit ≤ more.pump.missCount then enterFault more else more
  | .held => if s1.pump.missCount < s1.cfg.missLimit then more else s1
  | .unset => s1
  | .none => s1
  | .fault => s1

/-- FILL_END (R124). -/
def execFillEnd (s : State) : Host.Outcome State Fault Refusal :=
  if s.phaseOver .fill then .next (enterPhase .drive s) else .next s

/-- DRIVE_END (R124, R126): with a confirm window of 0 the stroke confirms here. -/
def execDriveEnd (s : State) : Host.Outcome State Fault Refusal :=
  match s.pump.stroke with
  | some k =>
    if s.phaseOver .drive then
      if s.cfg.confirmWindow = 0 then .next (startIfChanged s (enterPhase .recover (confirmStroke k s)))
      else if k.confirmed then .next (enterPhase .recover s)
      else .next (enterPhase .confirm s)
    else .next s
  | none => .next s

/-- A stray confirmation pulse (R127). -/
def strayPulse (s : State) : State := s.withPump { s.pump with stray := s.pump.stray + 1 }

/-- A confirmation pulse from START on (R125 to R127). -/
def takePulse (s : State) : State :=
  match s.pump.stroke with
  | some k =>
    if s.cfg.confirmWindow = 0 ∨ k.confirmed then strayPulse s
    else
      match k.phase with
      | .drive => confirmStroke k s
      | .confirm => enterPhase .recover (confirmStroke k s)
      | .fill => strayPulse s
      | .recover => strayPulse s
  | none => strayPulse s

/-- CONFIRMATION_PULSE (R118, R125): the filtered level of the input is high, and a change from low is a pulse; in CONFIG it
is neither handled nor counted. A level that stands is no change. -/
def execConfirmationPulse (s : State) : Host.Outcome State Fault Refusal :=
  let s1 := s.withPump { s.pump with level := true }
  if s.pump.level then .next s
  else if s.peers.mode = .config then .next s1 else .next (startIfChanged s (takePulse s1))

/-- CONFIRM_WINDOW_EXPIRY (R125, R130): CONFIRM ends with no pulse, RECOVER begins, and the stroke has missed. -/
def execConfirmWindowExpiry (s : State) : Host.Outcome State Fault Refusal :=
  if s.phaseOver .confirm then .next (startIfChanged s (missStroke (enterPhase .recover s))) else .next s

/-- RECOVER_END (R124): the phase returns to IDLE, and the start conditions are tested afresh. -/
def execRecoverEnd (s : State) : Host.Outcome State Fault Refusal :=
  if s.phaseOver .recover then .next (startIfChanged s (s.withPump { s.pump with stroke := none })) else .next s

/-- The oldest entry of the stroke history has reached its start time plus the window length (R133). -/
def State.historyDue (s : State) : Bool := hasRun s.clock s.pump.history.head? s.cfg.windowLength

/-- HISTORY_ENTRY_LEAVES (R133): a start that the entry withheld is made now. -/
def execHistoryEntryLeaves (s : State) : Host.Outcome State Fault Refusal :=
  if s.historyDue then .next (startIfChanged s (s.withPump { s.pump with history := s.pump.history.tail })) else .next s

/-- SPACING_RUNS_OUT (R134, R135): the start conditions are tested, the fifth with the spacing as the clock gives it. -/
def execSpacingRunsOut (s : State) : Host.Outcome State Fault Refusal := .next (testStart s)

/-! ## The pump lines -/

/-- The fill output (R117). -/
def State.fillOutput (s : State) : Bool :=
  match s.pump.stroke with
  | some k => k.phase == .fill
  | none => false

/-- The drive output (R117). -/
def State.driveOutput (s : State) : Bool :=
  match s.pump.stroke with
  | some k => k.phase == .drive
  | none => false

/-- The bleed output: energised through every phase of a prime stroke (R117). -/
def State.bleedOutput (s : State) : Bool :=
  match s.pump.stroke with
  | some k => k.prime
  | none => false

end Sys2Proof.Machine
end

