-- ==== Sys2Proof/Machine/Port.lean ====
section
/-! DEFINITION. The Supervisory Port (chapter 10) but for START: selectors and snapshots, configuration writes, protocol
errors and commands. -/

namespace Sys2Proof.Machine

/-! ## Selectors and snapshots -/

/-- A complete selector replaces the selector and its snapshot (R176). -/
def latch (sel : Selector) (bytes : List Byte) (s : State) : State :=
  s.withPort { s.port with selector := sel, snapshot := bytes }

/-- A byte is not acknowledged, or a transaction is cut off: the protocol error count rises by 1 (R174, R175). -/
def protocolError (s : State) : State := s.withPort { s.port with protocolErrors := s.port.protocolErrors + 1 }

/-- STATUS (R186). -/
def execStatus (s : State) : Host.Outcome State Fault Refusal := .next (latch .status (statusBytes s) s)

/-- TOTALS (R187). -/
def execTotals (s : State) : Host.Outcome State Fault Refusal := .next (latch .totals (totalsBytes s) s)

/-- PEER (R92): a node number of 0 or above 16 is not acknowledged (R174). -/
def execPeer (node : Byte) (s : State) : Host.Outcome State Fault Refusal :=
  if 1 ≤ node.toNat ∧ node.toNat ≤ 16 then .next (latch (.peer node) (peerBytes s node) s) else .next (protocolError s)

/-- RECORD (R168). -/
def execRecord (sequence : BitVec 32) (s : State) : Host.Outcome State Fault Refusal :=
  .next (latch (.record sequence) (answerBytes s (s.store.answerRecord sequence)) s)

/-- NEXT_RECORD (R169): the answer at the cursor, with the cursor then moved. -/
def execNextRecord (s : State) : Host.Outcome State Fault Refusal :=
  let s1 := latch .nextRecord (answerBytes s s.store.answerNext.1) s
  .next (s1.withStore { s1.store with cursor := s.store.answerNext.2 })

/-- CONFIG (R179): an offset at or beyond the block's length is not acknowledged (R174). -/
def execConfig (offset : BitVec 16) (s : State) : Host.Outcome State Fault Refusal :=
  if offset.toNat < blockLength then .next (latch (.config offset) (configBytes s offset.toNat) s)
  else .next (protocolError s)

/-- UNRECOGNISED_SELECTOR (R174): the selector in force and its snapshot stay as they stand. -/
def execUnrecognisedSelector (s : State) : Host.Outcome State Fault Refusal := .next (protocolError s)

/-- TRANSACTION_ABANDONED (R175). -/
def execTransactionAbandoned (s : State) : Host.Outcome State Fault Refusal := .next (protocolError s)

/-- WRITE_ENDED_PART_WAY (R174). -/
def execWriteEndedPartWay (s : State) : Host.Outcome State Fault Refusal := .next (protocolError s)

/-- COMMAND_SELECTOR (R176): the last-command record as it stands at the selector. -/
def execCommandSelector (s : State) : Host.Outcome State Fault Refusal :=
  .next (latch .command (commandBytes s.clock s.port.last) s)

/-! ## Configuration writes -/

/-- The last-command record is replaced (R185). -/
def recordLast (kind : CommandKind) (code : Byte) (result : CommandResult) (index : Nat) (s : State) : State :=
  s.withPort { s.port with
    last := { kind := kind, code := code, result := result, index := index, time := s.clock,
              count := s.port.last.count + 1 } }

/-- The data bytes of a configuration write to a block that is not LOCKED (R178): those within the block are stored, and
the first beyond it is not acknowledged. -/
def storeConfig (offset : Nat) (data : List Byte) (s : State) : State :=
  let s1 := s.withPort { s.port with
    block := storeBytes s.port.block offset (data.take (blockLength - offset)), blockState := .written }
  if blockLength - offset < data.length then protocolError s1 else s1

/-- CONFIG_WRITE (R178): the CONFIG selector completes, and its data bytes are stored and recorded unless the block is
LOCKED. -/
def execConfigWrite (offset : BitVec 16) (data : List Byte) (stopped : Bool) (s : State) :
    Host.Outcome State Fault Refusal :=
  if offset.toNat < blockLength then
    let s1 := latch (.config offset) (configBytes s offset.toNat) s
    if data = [] then .next s1
    else if s.port.blockState = .locked then .next (recordLast .configWrite 0 .refusedState 0 (protocolError s1))
    else
      let s2 := storeConfig offset.toNat data s1
      if stopped then .next (recordLast .configWrite 0 .done 0 s2) else .next s2
  else .next (protocolError s)

/-! ## Commands -/

/-- A command is taken or refused: its result is recorded, and the COMMAND snapshot is latched with it (R183, R185). -/
def recordCommand (code : Byte) (result : CommandResult) (index : Nat) (s : State) : State :=
  let s1 := recordLast .command code result index s
  latch .command (commandBytes s1.clock s1.port.last) s1

/-- A command taken with result DONE. -/
def done (code : Byte) (s : State) : State := recordCommand code .done 0 s

/-- A command refused with REFUSED-STATE, which changes nothing but the record (R184). -/
def refuseState (code : Byte) (s : State) : State := recordCommand code .refusedState 0 s

/-- The pump condition becomes PRIMING with the full prime count and no miss (R121, R122). -/
def enterPriming (s : State) : State :=
  let s1 := setCondition .priming s
  s1.withPump { s1.pump with primeRemaining := s1.cfg.primeCount, missCount := 0 }

/-- The conditions in which HOLD is taken (R120). -/
def PumpCondition.mayHold : PumpCondition → Bool
  | .priming => true
  | .available => true
  | .fault => true
  | .unset => false
  | .none => false
  | .held => false

/-- HOLD (R120): the condition changes first, then the whole debt is released. -/
def execHold (s : State) : Host.Outcome State Fault Refusal :=
  if s.peers.mode ≠ .config ∧ s.pump.condition.mayHold then .next (done codeHold (startIfChanged s (release (setCondition .held s))))
  else .next (refuseState codeHold s)

/-- RESUME (R121). -/
def execResume (s : State) : Host.Outcome State Fault Refusal :=
  if s.peers.mode ≠ .config ∧ s.pump.condition = .held then .next (done codeResume (startIfChanged s (enterPriming s)))
  else .next (refuseState codeResume s)

/-- PUMP_RESET (R122). -/
def execPumpReset (s : State) : Host.Outcome State Fault Refusal :=
  if s.peers.mode ≠ .config ∧ s.pump.condition = .fault then .next (done codePumpReset (startIfChanged s (enterPriming s)))
  else .next (refuseState codePumpReset s)

/-- What LEAVE does (R89): PARKED, the whole debt released, then the LEAVE frame due (R58). -/
def park (s : State) : State := fallDue .leave (release (setSwitchPending false (setMode .parked s)))

/-- LEAVE (R89). -/
def execLeave (s : State) : Host.Outcome State Fault Refusal :=
  if s.peers.mode.isActive then .next (done codeLeave (startIfChanged s (park s))) else .next (refuseState codeLeave s)

/-- The cause of SOLO that JOIN leads to (R90). -/
def State.joinCause (s : State) : SoloCause := if s.tally.transmitter = .silent then .duplicate else .starting

/-- JOIN (R90). -/
def execJoin (s : State) : Host.Outcome State Fault Refusal :=
  if s.peers.mode = .parked then .next (done codeJoin (startIfChanged s (setMode (.solo s.joinCause) s)))
  else .next (refuseState codeJoin s)

/-- MARK (R165). -/
def execMark (s : State) : Host.Outcome State Fault Refusal :=
  if s.peers.mode ≠ .config then .next (done codeMark (closeInterval .mark s)) else .next (refuseState codeMark s)

/-- Every latch is cleared but those of the level conditions that are true (R191). -/
def clearLatches (s : State) : State :=
  s.withAlarm { s.alarm with latches := s.alarm.latches &&& (s.alarm.conditions &&& levelConditions) }

/-- CLEAR_LATCHES (R191). -/
def execClearLatches (s : State) : Host.Outcome State Fault Refusal := .next (done codeClearLatches (clearLatches s))

/-- The code names one of the commands (R198). -/
def namesCommand (code : Byte) : Bool := 1 ≤ code.toNat && code.toNat ≤ 8

/-- UNKNOWN (R183): the code is recorded and not taken, so the COMMAND snapshot stays the record as latched at the selector
(R185; log entry 9). A code that names a command is no UNKNOWN command, and nothing happens (log entry 3). -/
def execUnknown (code : Byte) (s : State) : Host.Outcome State Fault Refusal :=
  if namesCommand code then .next s
  else .next (recordLast .command code .unknown 0 (latch .command (commandBytes s.clock s.port.last) s))

/-! ## Reading -/

/-- The bytes that a read transaction of `k` bytes returns: the snapshot from its first byte, and 255 beyond its end
(R177). -/
def State.portRead (s : State) (k : Nat) : List Byte := (List.range k).map fun i => s.port.snapshot.getD i 255

/-- The bus address the node answers at (R173). -/
def State.portAddress (s : State) : Nat := 44 + s.addressOffset.toNat

/-- The node acknowledges an address byte that carries its address, in either direction (R173). -/
def State.acknowledges (s : State) (address : Byte) : Bool := address.toNat / 2 == s.portAddress

end Sys2Proof.Machine
end

