-- ==== Sys2Proof/Machine/Pulse.lean ====
section
/-! DEFINITION. The Pulse Counter (chapter 1), the Conversion Unit (chapter 3) and the cycle end that drives both. -/

namespace Sys2Proof.Machine

/-! ## Pulses -/

/-- A running count saturates at 8,191 (R6). -/
def countLimit : Nat := 8191

/-- The pre-start count saturates at 4,294,967,295 (R12). -/
def preStartLimit : Nat := 4294967295

/-- An edge on channel A (R5, R6, R12): before START it adds to the pre-start count, after it to the running count. -/
def countA (s : State) : State :=
  let p := s.pulse
  if s.peers.mode = .config then
    s.withPulse { p with preStart := if p.preStart < preStartLimit then p.preStart + 1 else p.preStart }
  else if p.a < countLimit then s.withPulse { p with a := p.a + 1 }
  else s.withPulse { p with satA := true }

/-- An edge on channel B (R5, R6): it adds to the running count where the channel is fitted, and is discarded otherwise and
in CONFIG. -/
def countB (s : State) : State :=
  let p := s.pulse
  if s.peers.mode = .config ∨ s.cfg.dualPulse ≠ 1 then s
  else if p.b < countLimit then s.withPulse { p with b := p.b + 1 }
  else s.withPulse { p with satB := true }

/-- PULSE_EDGE (R4, R5, R118): the level is taken as the input's filtered level, and a meter channel's change from low to
high is counted. A level that stands is no change. -/
def execPulseEdge (change : LevelChange) (s : State) : Host.Outcome State Fault Refusal :=
  match change with
  | .high .a => .next (if s.pulse.levelA then s else countA (s.withPulse { s.pulse with levelA := true }))
  | .high .b => .next (if s.pulse.levelB then s else countB (s.withPulse { s.pulse with levelB := true }))
  | .low .a => .next (s.withPulse { s.pulse with levelA := false })
  | .low .b => .next (s.withPulse { s.pulse with levelB := false })
  | .low .confirmation => .next (s.withPump { s.pump with level := false })

/-- The difference of two counts without its sign (R8). -/
def difference (a b : Nat) : Nat := max a b - min a b

/-- The cycle is a mismatch (R8, R9). -/
def State.cycleMismatch (s : State) : Bool :=
  s.cfg.dualPulse == 1 && s.cfg.mismatchLimit < difference s.pulse.a s.pulse.b

/-- The cycle record of the closing cycle (R8 to R10). -/
def State.cycleRecord (s : State) : CycleRecord :=
  let fromB := s.cycleMismatch && s.pulse.a < s.pulse.b
  { number := s.pulse.nextNumber, a := s.pulse.a, b := s.pulse.b, n := if fromB then s.pulse.b else s.pulse.a,
    sourceB := fromB, satA := s.pulse.satA, satB := s.pulse.satB, mismatch := s.cycleMismatch }

/-- The counts close into the cycle record, the new cycle begins at 0, and the record's conditions are raised (R7, R10,
R11). -/
def closeCycle (s : State) : State :=
  let r := s.cycleRecord
  raiseIf r.mismatch .pulseMismatch .pulseMismatch
    (raiseIf (r.satA || r.satB) .pulseOverrange .pulseOverrange
      (s.withPulse { s.pulse with
        cycleStart := reschedule s.pulse.cycleStart 1000, a := 0, b := 0, satA := false, satB := false, last := r,
        nextNumber := r.number + 1 }))

/-! ## Conversion -/

/-- The factor in the segments beyond a point whose pressure is at most `pf` (R37). -/
def factorFrom (pf p f : Nat) : (rest : List (Nat × Nat)) → Nat
  | [] => f
  | (p2, f2) :: rest => if pf < p2 then f + (f2 - f) * (pf - p) / (p2 - p) else factorFrom pf p2 f2 rest

/-- The compressibility factor F at a pressure, over the points in use (R37). -/
def factorAt (pf : Nat) : (points : List (Nat × Nat)) → Nat
  | [] => 0
  | (p, f) :: rest => if pf ≤ p then f else factorFrom pf p f rest

/-- The points in use: the first point-count points (R50). -/
def Cfg.pointsInUse (c : Cfg) : List (Nat × Nat) := c.points.take c.pointCount

/-- The combined factor C (R38). -/
def combinedFactor (c : Cfg) (pf tf f : Nat) : Nat := pf * c.baseTemperature * f / (c.basePressure * tf)

/-- The conversion of a cycle's N at the values given (R36 to R41). -/
def State.conversion (s : State) (r : CycleRecord) (p t : Given) : ConversionRecord :=
  let va := r.n * s.cfg.pulseWeight
  let f := factorAt p.value s.cfg.pointsInUse
  let c := combinedFactor s.cfg p.value t.value f
  { number := r.number, n := r.n, va := va, pf := p.value, pfKind := p.kind, tf := t.value, tfKind := t.kind, f := f,
    c := c, vb := if r.n = 0 then 0 else (va * c + s.conv.q) / 65536,
    q := if r.n = 0 then s.conv.q else (va * c + s.conv.q) % 65536 }

/-- A conversion takes its place whole: Q, the cumulatives and the record together (R34, R42). -/
def applyConversion (k : ConversionRecord) (s : State) : State :=
  s.withConv { s.conv with q := k.q, actual := s.conv.actual + BitVec.ofNat 64 k.va,
                           base := s.conv.base + BitVec.ofNat 64 k.vb, last := k }

/-- The conversion's Pf and Tf reach the current interval, with the cycle counted (R44, R163). -/
def countCycle (pf tf : Nat) (s : State) : State :=
  onInterval (fun i => { i with cycles := i.cycles + 1, sumPf := i.sumPf + BitVec.ofNat 64 pf,
                                sumTf := i.sumTf + BitVec.ofNat 64 tf }) s

/-- A conversion at a cycle end, handed on to the filter, the interval and Dose Accounting (R34, R44). -/
def convert (r : CycleRecord) (p t : Given) (s : State) : State :=
  let k := s.conversion r p t
  ownCycleEvent k.number k.vb (addHeader k.vb (countCycle k.pf k.tf (applyConversion k s)))

/-! ## The cycle end -/

/-- The cycle timer has run its 1,000 ms (R2). -/
def State.cycleDue (s : State) : Bool := hasRun s.clock s.pulse.cycleStart 1000

/-- What one expiry of the cycle timer does: the counts close (R7), the values are given (R27), the cycle is converted and
handed on (R34), and the next poll falls due (R16). -/
def cycleEnd (s : State) : State :=
  let s1 := closeCycle s
  let s2 := giveValues s1
  pollDue (convert s1.pulse.last s2.sensor.givenP s2.sensor.givenT s2)

/-- CYCLE_TIMER_EXPIRY (R7). -/
def execCycleTimerExpiry (s : State) : Host.Outcome State Fault Refusal :=
  if s.cycleDue then .next (startIfChanged s (cycleEnd s)) else .next s

end Sys2Proof.Machine
end

