-- ==== Sys2Proof/Machine/Start.lean ====
section
/-! DEFINITION. START (section 10.4): the checks of the configuration block and the start of every block. -/

namespace Sys2Proof.Machine

/-- A value lies in a range written "low to high". -/
def within (low high v : Nat) : Bool := low ≤ v && v ≤ high

/-- The pressure of point `i`, counted from 0. -/
def Cfg.pointPressure (c : Cfg) (i : Nat) : Nat := (c.points.getD i (0, 0)).1

/-- The factor of point `i`, counted from 0. -/
def Cfg.pointFactor (c : Cfg) (i : Nat) : Nat := (c.points.getD i (0, 0)).2

/-- The check of a point's pressure: in range, and above the pressure before it; points beyond the count are not checked
(R50). -/
def checkPointPressure (c : Cfg) (i : Nat) : Bool :=
  c.pointCount ≤ i ||
    (within 50000 15000000 (c.pointPressure i) && (i == 0 || c.pointPressure (i - 1) < c.pointPressure i))

/-- The check of a point's factor: in range, and not below the factor before it (R50). -/
def checkPointFactor (c : Cfg) (i : Nat) : Bool :=
  c.pointCount ≤ i ||
    (within 32768 131071 (c.pointFactor i) && (i == 0 || c.pointFactor (i - 1) ≤ c.pointFactor i))

/-- The checks of fields 1 to 15 and 32 to 60, each at its index (R33, R49, R67, R116, R144, R145, R159, R172, R180). -/
def checkScalar (c : Cfg) (index : Nat) : Bool :=
  match index with
  | 1 => within 1 10000000 c.pulseWeight
  | 2 => c.dualPulse ≤ 1
  | 3 => true
  | 4 => within 8 119 c.pressureAddress
  | 5 => within 8 119 c.temperatureAddress && c.temperatureAddress != c.pressureAddress
  | 6 => within 50000 15000000 c.plo
  | 7 => within 50000 15000000 c.phi && c.plo < c.phi
  | 8 => within 22315 35315 c.tlo
  | 9 => within 22315 35315 c.thi && c.tlo < c.thi
  | 10 => within c.plo c.phi c.pressureFallback
  | 11 => within c.tlo c.thi c.temperatureFallback
  | 12 => within 1 30 c.holdCycles
  | 13 => within 90000 110000 c.basePressure
  | 14 => within 27315 29315 c.baseTemperature
  | 15 => within 2 8 c.pointCount
  | 32 => within 10 500 c.doseTarget
  | 33 => within 1000 2000000 c.strokeMass
  | 34 => c.capacityClass ≤ 15
  | 35 => within 1 4 c.low
  | 36 => c.low < c.high && c.high ≤ 8
  | 37 => c.high < c.strain && c.strain ≤ 12
  | 38 => c.strain < c.ceiling && c.ceiling ≤ 16
  | 39 => 1 ≤ c.hysteresis && c.hysteresis < c.high
  | 40 => within 20 2000 c.fillTime
  | 41 => within 20 2000 c.driveTime
  | 42 => c.confirmWindow ≤ 2000
  | 43 => within 20 5000 c.recoverTime
  | 44 => within (c.fillTime + c.driveTime + c.recoverTime) 60000 c.minSpacing
  | 45 => within c.minSpacing 600000 c.pacedSpacing
  | 46 => within 1000 60000 c.windowLength
  | 47 => within 2 16 c.windowCap
  | 48 => within 1 8 c.missLimit
  | 49 => within 1 16 c.primeCount
  | 50 => within 250 2000 c.tallyInterval && c.tallyInterval % 250 == 0
  | 51 => c.filterShift ≤ 7
  | 52 => within 5 120 c.filterPeriod
  | 53 => within 1000 1000000 c.vmin
  | 54 => within 11 4000 c.upperLimit && c.doseTarget < c.upperLimit
  | 55 => within 1 3989 c.throttleHysteresis && c.doseTarget + c.throttleHysteresis < c.upperLimit
  | 56 => within 1 499 c.lowerLimit && c.lowerLimit < c.doseTarget
  | 57 => within 1 240 c.lowDwell
  | 58 => within 1 60 c.intervalLength
  | _ => true

/-- The check of the field with an index (R180): indexes 16 to 31 are P1, F1 to P8, F8. -/
def checkField (c : Cfg) (index : Nat) : Bool :=
  if 16 ≤ index ∧ index ≤ 31 then
    if index % 2 = 0 then checkPointPressure c ((index - 16) / 2) else checkPointFactor c ((index - 16) / 2)
  else checkScalar c index

/-- The index of the first field that fails, in the order of the indexes (R180, test 4). -/
def firstFailing (c : Cfg) : Option Nat := (List.range' 1 60).find? fun i => !checkField c i

/-- The block's CRC field holds the CRC of every byte before it (R180, test 3). -/
def blockCrcGood (block : List Byte) : Bool := crc16 (block.take 149) == BitVec.ofNat 16 (fieldAt block 149 2)

/-- The tests of R180 in their order: none when all pass, otherwise the result and the field index. -/
def State.startRefusal (s : State) : Option (CommandResult × Nat) :=
  if s.peers.mode ≠ .config then some (.refusedState, 0)
  else if s.port.blockState = .absent then some (.refusedValue, 0)
  else if blockCrcGood s.port.block = false then some (.refusedValue, 61)
  else
    match firstFailing (readBlock s.port.block) with
    | some i => some (.refusedValue, i)
    | none => none

/-- The compressibility factor of the last point in use. -/
def Cfg.lastFactor (c : Cfg) : Nat := c.pointFactor (c.pointCount - 1)

/-- Cmin (R39). -/
def Cfg.cmin (c : Cfg) : Nat := combinedFactor c c.plo c.thi (c.pointFactor 0)

/-- Cmax (R39). -/
def Cfg.cmax (c : Cfg) : Nat := combinedFactor c c.phi c.tlo c.lastFactor

/-- The configuration comes into force and the block is LOCKED (R181). -/
def takeConfiguration (s : State) : State :=
  let c := readBlock s.port.block
  ((s.withCfg c).withPort { s.port with blockState := .locked }).withAlarm
    { s.alarm with mask1 := BitVec.ofNat 16 c.mask1, mask2 := BitVec.ofNat 16 c.mask2 }

/-- The Pulse Counter and the Conversion Unit at START (R13, R40, R48). -/
def startMeasurement (s : State) : State :=
  (s.withPulse { s.pulse with cycleStart := some s.clock, a := 0, b := 0, satA := false, satB := false,
                              preStart := 0 }).withConv
    { s.conv with q := 0, cmin := s.cfg.cmin, cmax := s.cfg.cmax }

/-- The Tally Line Interface and the Peer Table at START (R67, R82). -/
def startSharing (s : State) : State :=
  let s1 := s.withTally { s.tally with receiver := .syncing, timerStart := some s.clock }
  setMode (.solo .starting) (s1.withPeers { s1.peers with switchPending := false, lastSharedDebt := 0 })

/-- The Pump Sequencer at START (R119, R136); the start conditions are tested at the end of START (R142). -/
def startPump (s : State) : State :=
  reportPump (s.withPump { s.pump with
    condition := if s.cfg.capacityClass = 0 then .none else .priming, missCount := 0,
    primeRemaining := s.cfg.primeCount, behind := false, strained := false })

/-- The Concentration Filter at START (R158). -/
def startFilter (s : State) : State :=
  s.withFilter { s.filter with average := s.cfg.doseTarget * 256, periodStart := some s.clock }

/-- The Interval Store at START (R172). -/
def startIntervals (s : State) : State :=
  openInterval (s.withStore { s.store with timerStart := some s.clock })

/-- START accepted: every block starts at the one instant (R181). -/
def startNode (s : State) : State :=
  startIntervals (startFilter (startPump (startSharing (beginTransaction .pressure (startMeasurement
    (takeConfiguration s))))))

/-- START (R180 to R182). -/
def execStart (s : State) : Host.Outcome State Fault Refusal :=
  match s.startRefusal with
  | some (result, index) => .next (recordCommand codeStart result index s)
  | none => .next (done codeStart (startIfChanged s (startNode s)))

/-! ## Cold reset -/

/-- The node at the end of a cold reset, with the STATUS snapshot latched then (R177); the queue and the model's own count of
choices stay. -/
def resetNode (nodeStraps : BitVec 4) (addressStraps : BitVec 2) (levelA levelB levelConfirm : Bool) (s : State) :
    State :=
  let t := State.coldReset nodeStraps addressStraps levelA levelB levelConfirm []
  (latch .status (statusBytes t) t).withPending s.pending |>.withChoices s.choices

/-- COLD_RESET (R1, R15, R32, R47, R66, R93, R96, R141, R158, R172, R188, R194). -/
def execColdReset (nodeStraps : BitVec 4) (addressStraps : BitVec 2) (levelA levelB levelConfirm : Bool) (s : State) :
    Host.Outcome State Fault Refusal :=
  .next (resetNode nodeStraps addressStraps levelA levelB levelConfirm s)

end Sys2Proof.Machine
end

