-- ==== Sys2Proof/Machine/Tally.lean ====
section
/-! DEFINITION. The transmitter and the receiver of the tally line (chapter 4). -/

namespace Sys2Proof.Machine

/-- RECEIVER_SYNCED (R52): in SYNCING the receiver sees the line idle and is on. -/
def execReceiverSynced (s : State) : Host.Outcome State Fault Refusal :=
  if s.tally.receiver = .syncing then .next (s.withTally { s.tally with receiver := .on, lineIdle := true })
  else .next s

/-- The tally timer has run one tally interval (R56). -/
def State.tallyDue (s : State) : Bool := hasRun s.clock s.tally.timerStart s.cfg.tallyInterval

/-- TALLY_TIMER_EXPIRY (R56): in SOLO or SHARED a TALLY falls due, unless the transmitter is silenced. -/
def execTallyTimerExpiry (s : State) : Host.Outcome State Fault Refusal :=
  if s.tallyDue then
    let s1 := s.withTally { s.tally with timerStart := reschedule s.tally.timerStart s.cfg.tallyInterval }
    if s1.peers.mode.isActive then .next (fallDue .tally s1) else .next s1
  else .next s

/-- LINE_IDLE (R51, R59): the line becomes idle; a frame in DEFER goes to HOLDOFF with its holdoff. The frame end of the same
instant may be still to come, so the mark of an own frame stays (log entry 15). -/
def execLineIdle (s : State) : Host.Outcome State Fault Refusal :=
  if s.tally.transmitter = .defer then
    .next (s.withTally { s.tally with lineIdle := true, transmitter := .holdoff,
                                      holdoff := holdoffLength s.nodeNumber s.tally.attempt })
  else .next (s.withTally { s.tally with lineIdle := true })

/-- HOLDOFF_END (R59): the holdoff has run out on an idle line, and the frame's first start bit is driven. -/
def execHoldoffEnd (s : State) : Host.Outcome State Fault Refusal :=
  if s.tally.transmitter = .holdoff ∧ s.tally.lineIdle then
    .next (s.withTally { s.tally with transmitter := .sending, lineIdle := false, ownOnLine := none })
  else .next s

/-- DEFERRAL (R51, R59): a dominant bit ends the idle line; in HOLDOFF the frame goes back to DEFER with the same attempt
index. On an idle line the bit begins another frame, so an own frame before it has ended. -/
def execDeferral (s : State) : Host.Outcome State Fault Refusal :=
  let own := if s.tally.lineIdle then none else s.tally.ownOnLine
  if s.tally.transmitter = .holdoff then
    .next (s.withTally { s.tally with transmitter := .defer, lineIdle := false, ownOnLine := own })
  else .next (s.withTally { s.tally with lineIdle := false, ownOnLine := own })

/-- A lost attempt below the fourth (R60, R62): the frame stays pending in DEFER, unless an owed frame replaces it. -/
def loseAttempt (s : State) : State :=
  let s1 := s.withTally { s.tally with transmitter := .defer, attempt := s.tally.attempt + 1 }
  if s.tally.owed = .none then s1 else buildOwed (countAbandoned true s1)

/-- The fourth lost attempt (R60, R62): the frame is abandoned, and an owed frame is built. -/
def abandonFrame (s : State) : State :=
  buildOwed (countAbandoned false (s.withTally { s.tally with transmitter := .empty, attempt := 0, pending := none }))

/-- COLLISION (R60): a bit read back differs from the bit sent. -/
def execCollision (s : State) : Host.Outcome State Fault Refusal :=
  if s.tally.transmitter = .sending then
    let s1 := s.withTally { s.tally with collisions := s.tally.collisions + 1, lineIdle := false }
    if s.tally.attempt + 1 < 4 then .next (loseAttempt s1) else .next (abandonFrame s1)
  else .next s

/-- What a frame sent does (R61): the counts, the end of LINK FAULT, the report to the Peer Table, then an owed frame. The
frame is the node's own at the frame end that follows (R55). -/
def frameIsSent (p : Pending) (s : State) : State :=
  buildOwed (reportSent p (setLevel .linkFault false
    (s.withTally { s.tally with sent := s.tally.sent + 1, consecutive := 0, attempt := 0, pending := none,
                                transmitter := .empty, lineIdle := false,
                                ownOnLine := some p.frame })))

/-- FRAME_SENT (R61): the last stop bit has read back as sent. -/
def execFrameSent (s : State) : Host.Outcome State Fault Refusal :=
  match s.tally.transmitter, s.tally.pending with
  | .sending, some p => .next (startIfChanged s (frameIsSent p s))
  | _, _ => .next s

end Sys2Proof.Machine
end

