-- ==== Sys2Proof/Machine/Dispatch.lean ====
section
/-! DEFINITION. One arm per command: the effect of a command on everything but the queue. -/

namespace Sys2Proof.Machine

def exec (i : Instr) (s : State) : Host.Outcome State Fault Refusal :=
  match i with
  | .coldReset nodeStraps addressStraps levelA levelB levelConfirm => Sys2Proof.Machine.execColdReset nodeStraps addressStraps levelA levelB levelConfirm s
  | .pulseEdge change => Sys2Proof.Machine.execPulseEdge change s
  | .cycleTimerExpiry => Sys2Proof.Machine.execCycleTimerExpiry s
  | .busReleased => Sys2Proof.Machine.execBusReleased s
  | .busHeld => Sys2Proof.Machine.execBusHeld s
  | .stretchNotice phase => Sys2Proof.Machine.execStretchNotice phase s
  | .stretchAbort => Sys2Proof.Machine.execStretchAbort s
  | .addressNack byte => Sys2Proof.Machine.execAddressNack byte s
  | .transactionEnd value status => Sys2Proof.Machine.execTransactionEnd value status s
  | .recoveryEnd => Sys2Proof.Machine.execRecoveryEnd s
  | .receiverSynced => Sys2Proof.Machine.execReceiverSynced s
  | .frameEnd bytes framingError overLong => Sys2Proof.Machine.execFrameEnd bytes framingError overLong s
  | .tallyTimerExpiry => Sys2Proof.Machine.execTallyTimerExpiry s
  | .lineIdle => Sys2Proof.Machine.execLineIdle s
  | .holdoffEnd => Sys2Proof.Machine.execHoldoffEnd s
  | .deferral => Sys2Proof.Machine.execDeferral s
  | .collision => Sys2Proof.Machine.execCollision s
  | .frameSent => Sys2Proof.Machine.execFrameSent s
  | .peerExpiry node => Sys2Proof.Machine.execPeerExpiry node s
  | .unheard => Sys2Proof.Machine.execUnheard s
  | .strokeStart => Sys2Proof.Machine.execStrokeStart s
  | .fillEnd => Sys2Proof.Machine.execFillEnd s
  | .driveEnd => Sys2Proof.Machine.execDriveEnd s
  | .confirmationPulse => Sys2Proof.Machine.execConfirmationPulse s
  | .confirmWindowExpiry => Sys2Proof.Machine.execConfirmWindowExpiry s
  | .recoverEnd => Sys2Proof.Machine.execRecoverEnd s
  | .historyEntryLeaves => Sys2Proof.Machine.execHistoryEntryLeaves s
  | .spacingRunsOut => Sys2Proof.Machine.execSpacingRunsOut s
  | .periodTimerExpiry => Sys2Proof.Machine.execPeriodTimerExpiry s
  | .lowDwellExpiry => Sys2Proof.Machine.execLowDwellExpiry s
  | .intervalTimerExpiry => Sys2Proof.Machine.execIntervalTimerExpiry s
  | .status => Sys2Proof.Machine.execStatus s
  | .totals => Sys2Proof.Machine.execTotals s
  | .peer node => Sys2Proof.Machine.execPeer node s
  | .record sequence => Sys2Proof.Machine.execRecord sequence s
  | .nextRecord => Sys2Proof.Machine.execNextRecord s
  | .config offset => Sys2Proof.Machine.execConfig offset s
  | .configWrite offset data stopped => Sys2Proof.Machine.execConfigWrite offset data stopped s
  | .unrecognisedSelector => Sys2Proof.Machine.execUnrecognisedSelector s
  | .transactionAbandoned => Sys2Proof.Machine.execTransactionAbandoned s
  | .start => Sys2Proof.Machine.execStart s
  | .hold => Sys2Proof.Machine.execHold s
  | .resume => Sys2Proof.Machine.execResume s
  | .pumpReset => Sys2Proof.Machine.execPumpReset s
  | .leave => Sys2Proof.Machine.execLeave s
  | .join => Sys2Proof.Machine.execJoin s
  | .mark => Sys2Proof.Machine.execMark s
  | .clearLatches => Sys2Proof.Machine.execClearLatches s
  | .unknown code => Sys2Proof.Machine.execUnknown code s
  | .commandSelector => Sys2Proof.Machine.execCommandSelector s
  | .writeEndedPartWay => Sys2Proof.Machine.execWriteEndedPartWay s

end Sys2Proof.Machine
end

