-- ==== Sys2Proof/Machine/Idle.lean ====
section
/-! DEFINITION. What the node does when no command waits: it takes an event that its own timers and conditions have made
due at this instant, or, none being due, lets one millisecond pass (R1; log entry 2). -/

namespace Sys2Proof.Machine

/-- The node numbers whose entries have reached their expiry times. -/
def State.duePeers (s : State) : List Nat := (List.range' 1 16).filter s.peerDue

/-- A command where its condition holds. -/
def dueIf (v : Bool) (c : Instr) : List Instr := if v then [c] else []

/-- A frame waits in DEFER on a line that is idle (R59). -/
def State.deferOver (s : State) : Bool := s.tally.transmitter == .defer && s.tally.lineIdle

/-- The events that the node's own timers and conditions have made due at this instant. -/
def State.dueCommands (s : State) : List Instr :=
  dueIf s.cycleDue .cycleTimerExpiry ++ dueIf s.busHeldDue .busHeld ++ dueIf s.tallyDue .tallyTimerExpiry ++
    dueIf s.deferOver .lineIdle ++ s.duePeers.map .peerExpiry ++ dueIf s.unheardDue .unheard ++
    dueIf s.mayStart .strokeStart ++ dueIf (s.phaseOver .fill) .fillEnd ++ dueIf (s.phaseOver .drive) .driveEnd ++
    dueIf (s.phaseOver .confirm) .confirmWindowExpiry ++ dueIf (s.phaseOver .recover) .recoverEnd ++
    dueIf s.historyDue .historyEntryLeaves ++ dueIf s.periodDue .periodTimerExpiry ++
    dueIf s.dwellDue .lowDwellExpiry ++ dueIf s.intervalDue .intervalTimerExpiry

/-- One millisecond of the node's clock (R1). -/
def tick (s : State) : State := s.withClock (s.clock + 1)

/-- An order is chosen among several events due at one instant: which is taken first is free (log entry 2). -/
def chooseDue (first : Instr) (rest : List Instr) (n : Nat) : Instr :=
  (first :: rest).getD (Config.freeOrder n % (rest.length + 1)) first

/-- A step on an empty queue. -/
def idleStep (s : State) : Host.Outcome State Fault Refusal :=
  match s.dueCommands with
  | [] => .next (tick s)
  | [c] => exec c s
  | c :: d :: rest => exec (chooseDue c (d :: rest) s.choices) (s.withChoices (s.choices + 1))

end Sys2Proof.Machine
end

