-- ==== Sys2Proof/Safety.lean ====
section
/-! DEFINITION. The laws of a safe run: what the manual says holds at every moment. Each is a plain condition on a state; the
statements say that a cold reset meets it and that every step keeps it. -/

namespace Sys2Proof.Machine

/-! ## Before START -/

/-- In CONFIG every block stands in its cold-reset state but for what works before START: the input levels, the pre-start
count, the idle mark of the tally line and the Supervisory Port, whose block is not LOCKED (R15, R32, R47, R66, R93,
R96, R141, R158, R172, R188, R194). -/
def ColdUntilStart (s : State) : Prop :=
  s.peers.mode = .config →
    s.cfg = Cfg.none ∧
      s.pulse = { PulseCounter.reset s.pulse.levelA s.pulse.levelB with preStart := s.pulse.preStart } ∧
      s.pulse.preStart ≤ 4294967295 ∧ s.sensor = SensorBus.reset ∧ s.conv = ConversionUnit.reset ∧
      s.tally = { TallyLine.reset with lineIdle := s.tally.lineIdle } ∧ s.peers = PeerTable.reset ∧
      s.dose = DoseAccounting.reset ∧ s.pump = PumpSequencer.reset s.pump.level ∧
      s.filter = ConcentrationFilter.reset ∧ s.store = IntervalStore.reset ∧ s.port.blockState ≠ .locked ∧
      s.alarm = AlarmUnit.reset

/-- From START on the block is LOCKED, an interval is open, the cycle, tally, period and interval timers run, and the pump has
a condition (R178, R160, R2, R56, R147, R161, R119). -/
def RunningAfterStart (s : State) : Prop :=
  s.peers.mode ≠ .config →
    s.port.blockState = .locked ∧ s.store.current.isSome = true ∧ s.pump.condition ≠ .unset ∧ s.tally.receiver ≠ .off ∧
      s.pulse.cycleStart.isSome = true ∧ s.tally.timerStart.isSome = true ∧ s.filter.periodStart.isSome = true ∧
      s.store.timerStart.isSome = true ∧ s.pulse.preStart = 0 ∧
      (s.pump.condition = .none ↔ s.cfg.capacityClass = 0)

/-! ## Dose Accounting -/

/-- The two equalities of R95, on the 64-bit counters. -/
def DoseBalanced (d : DoseAccounting) : Prop :=
  d.charged + d.adopted = d.debited + d.released + d.surrendered + BitVec.ofNat 64 d.debt ∧
    d.delivered = d.debited + d.excess

/-- The debt stays within the ceiling (R94). -/
def DebtBounded (s : State) : Prop := s.dose.debt ≤ s.ceilingDebt

/-- The carried remainders stay below their divisors (R40, R100, R101). -/
def RemaindersBounded (s : State) : Prop := s.conv.q < 65536 ∧ s.dose.r < chargeUnit ∧ s.dose.ru < chargeUnit

/-! ## Pump Sequencer -/

/-- The stroke history never holds more entries than the window cap (R133). -/
def HistoryBounded (s : State) : Prop := s.pump.history.length ≤ s.cfg.windowCap

/-- STRAINED is never set while BEHIND is clear (R136), given the order of the watermarks (R145). -/
def MarksOrdered (s : State) : Prop := s.cfg.high ≤ s.cfg.strain ∧ (s.pump.strained = true → s.pump.behind = true)

/-- BEHIND and STRAINED after a command that changes the debt at most once, from `s` to `t` (R136): both are clear below the
hysteresis watermark, each is set from its own watermark on, and a debt that has not changed leaves both. -/
def WatermarksTested (s t : State) : Prop :=
  let sm := s.cfg.strokeMass
  if t.dose.debt = s.dose.debt then t.pump.behind = s.pump.behind ∧ t.pump.strained = s.pump.strained
  else if t.dose.debt < s.cfg.hysteresis * sm then t.pump.behind = false ∧ t.pump.strained = false
  else t.pump.behind = (s.pump.behind || decide (s.cfg.high * sm ≤ t.dose.debt)) ∧
    t.pump.strained = (s.pump.strained || decide (s.cfg.strain * sm ≤ t.dose.debt))

/-! ## Concentration Filter -/

/-- The average lies in 0 to 4,000 × 256 and the last sample in 0 to 4,000 (R146, R151, R152). -/
def AverageBounded (s : State) : Prop := s.filter.average ≤ 1024000 ∧ s.filter.lastSample ≤ 4000

/-! ## Interval Store -/

/-- The ring holds at most 128 records, with consecutive sequences up to the one before the next (R167). -/
def RingConsecutive (t : IntervalStore) : Prop :=
  t.ring.length ≤ 128 ∧
    ∀ (i : Nat) (r : IntervalRecord), t.ring[i]? = some r →
      r.sequence = t.nextSequence - BitVec.ofNat 32 (t.ring.length - i)

/-! ## Alarm Unit -/

/-- A level condition that is true has its latch set, and no event condition is ever true (R189, R190, R191). -/
def LatchesHold (a : AlarmUnit) : Prop := a.conditions &&& ~~~a.latches = 0 ∧ a.conditions &&& ~~~levelConditions = 0

/-- The level conditions of the Peer Table, the Tally Line Interface, the Pump Sequencer and the Concentration Filter are
those that the rules of their owners give (R63, R91, R138, R154, R156). -/
def ConditionsFollow (s : State) : Prop :=
  (s.isTrue .unheard = true ↔ s.peers.mode = .solo .unheard) ∧ (s.isTrue .alone = true ↔ s.peers.mode = .solo .alone) ∧
    (s.isTrue .duplicateNumber = true ↔ s.tally.transmitter = .silent) ∧
    (s.isTrue .linkFault = true ↔ 8 ≤ s.tally.consecutive) ∧
    (s.isTrue .pumpFault = true ↔ s.pump.condition = .fault) ∧
    (s.isTrue .pumpStrained = true ↔ s.pump.condition = .available ∧ s.pump.strained = true) ∧
    (s.isTrue .throttled = true ↔ s.filter.throttled = true) ∧ (s.isTrue .concLow = true ↔ s.filter.dwell = .expired)

/-! ## Tally Line Interface -/

/-- A frame is pending exactly in DEFER, HOLDOFF and SENDING, one is owed only in SENDING, the attempt index is 0 to 3 and the
consecutive-abandoned count at most 255 (section 4.4, R62, R63). -/
def TransmitterConsistent (t : TallyLine) : Prop :=
  (t.pending.isSome = true ↔ t.transmitter = .defer ∨ t.transmitter = .holdoff ∨ t.transmitter = .sending) ∧
    (t.owed ≠ .none → t.transmitter = .sending) ∧ t.attempt ≤ 3 ∧ t.consecutive ≤ 255

/-! ## Peer Table -/

/-- The own number's place in the table stays ABSENT, so at most 15 entries are LIVE (R68). -/
def OwnEntryAbsent (s : State) : Prop := s.peers.entries.length = 16 ∧ s.peers.entry s.nodeNumber = Entry.absent

/-! ## Sensor Bus Master -/

/-- A value is within the clamp limits of its quantity. -/
def Cfg.inLimits (c : Cfg) (q : Quantity) (v : Nat) : Prop := c.clampLow q ≤ v ∧ v ≤ c.clampHigh q

/-- The last good values and the fallbacks lie within the clamp limits, so every value given does (R24, R25, R27), and an age
is at most 255 (R28). -/
def ValuesWithinLimits (s : State) : Prop :=
  ∀ q : Quantity,
    (s.sensor.of q).age ≤ 255 ∧ (∀ v, (s.sensor.of q).lastGood = some v → s.cfg.inLimits q v) ∧
      s.cfg.inLimits q (s.cfg.fallback q)

/-- At most one of the two transactions of a poll runs (R16, R20). -/
def OneTransaction (b : SensorBus) : Prop := b.pressure.phase = .idle ∨ b.temperature.phase = .idle

/-! ## Time -/

/-- A timer that runs from `since` has not outrun its span. -/
def NotOverdue (now : Time) (since : Option Time) (span : Nat) : Prop := ∀ t, since = some t → elapsed now t ≤ span

/-- The entries of the stroke history stand oldest first, and none has outlived the window (R133). The window is shorter than
the clock's round, as the 16 bits of its field make it (R197). -/
def HistoryKept (now : Time) (history : List Time) (windowLength : Nat) : Prop :=
  windowLength < 18446744073709551616 ∧ history.Pairwise (fun x y => elapsed now y ≤ elapsed now x) ∧
    ∀ t ∈ history, elapsed now t ≤ windowLength

/-- No instant at which the cycle timer, the tally timer, the period timer, the interval timer or the low-dwell timer expires,
the 50 ms of START CHECK run out, a phase of a stroke ends, an entry leaves the stroke history or a LIVE entry expires is
passed over (R2, R19, R56, R79, R124, R133, R147, R155, R161). -/
def TimersKept (s : State) : Prop :=
  NotOverdue s.clock s.pulse.cycleStart 1000 ∧ NotOverdue s.clock s.tally.timerStart s.cfg.tallyInterval ∧
    NotOverdue s.clock s.filter.periodStart (s.cfg.filterPeriod * 1000) ∧
    NotOverdue s.clock s.store.timerStart (s.cfg.intervalLength * 60000) ∧
    (∀ k, s.pump.stroke = some k → elapsed s.clock k.phaseStart ≤ s.cfg.phaseTime k.phase) ∧
    (∀ n f, 1 ≤ n → n ≤ 16 → (s.peers.entry n).status = .live f →
      elapsed s.clock (s.peers.entry n).lastHeard ≤ 4 * f.interval) ∧
    (∀ t, s.filter.dwell = .running t → elapsed s.clock t ≤ s.cfg.lowDwell * 60000) ∧
    (∀ q, s.sensor.active = some q → (s.sensor.of q).phase = .startCheck →
      elapsed s.clock (s.sensor.of q).checkStart ≤ 50) ∧
    HistoryKept s.clock s.pump.history s.cfg.windowLength

/-! ## What the statements say of the dose, the interval, the port and the transactions -/

/-- Dose Accounting after an amount has been taken into debt under the clamp at the ceiling, the overflow released (R104). -/
def DoseAccounting.took (d : DoseAccounting) (ceiling amount : Nat) : DoseAccounting :=
  if d.debt + amount ≤ ceiling then { d with debt := d.debt + amount }
  else { d with debt := ceiling, released := d.released + BitVec.ofNat 64 (d.debt + amount - ceiling) }

/-- The share of R97 of a capacity beside the capacities of the others, `rest`, Q16. -/
def shareBeside (capacity rest : Nat) : Nat := if capacity = 0 then 0 else capacity * 65536 / (capacity + rest)

/-- Dose Accounting after an adoption event at own capacity `capacity` beside others of capacity `rest` (R104, R105). -/
def DoseAccounting.adopting (d : DoseAccounting) (ceiling : Nat) (kind : AdoptionKind) (peer offered capacity rest : Nat) :
    DoseAccounting :=
  let x := shareBeside capacity rest
  { d with
    adopted := d.adopted + BitVec.ofNat 64 (offered * x / 65536),
    lastAdoption := some
      { kind := kind, peer := peer, offered := offered, denominator := capacity + rest, share := x,
        adopted := offered * x / 65536 } : DoseAccounting }.took ceiling (offered * x / 65536)

/-- Dose Accounting after a charge of `sum` over the unit of R100: waived while THROTTLED, and otherwise charged and taken into
debt (R103, R104). -/
def DoseAccounting.charging (d : DoseAccounting) (ceiling sum : Nat) (throttled : Bool) : DoseAccounting :=
  if throttled then
    { d with r := sum % 655360000000, waived := d.waived + BitVec.ofNat 64 (sum / 655360000000) }
  else
    { d with r := sum % 655360000000,
             charged := d.charged + BitVec.ofNat 64 (sum / 655360000000) : DoseAccounting }.took ceiling
      (sum / 655360000000)

/-- Dose Accounting after a surrender that carries the last transmitted SHARED-frame debt (R109). -/
def DoseAccounting.surrendering (d : DoseAccounting) (last : BitVec 32) : DoseAccounting :=
  { d with debt := d.debt - min d.debt last.toNat,
           surrendered := d.surrendered + BitVec.ofNat 64 (min d.debt last.toNat) }

/-- The condition that is raised, or that rises, where a flag is set (R11, R73, R79, R101, R107, R138, R154). The other flags
follow the values given and the mode (R30, R91). -/
def Flag.condition : Flag → Option Cond
  | .heldP => none
  | .substitutedP => none
  | .clampedP => none
  | .heldT => none
  | .substitutedT => none
  | .clampedT => none
  | .pulseMismatch => some .pulseMismatch
  | .pulseOverrange => some .pulseOverrange
  | .peerLost => some .peerLost
  | .peerImplausible => some .peerImplausible
  | .solo => none
  | .parked => none
  | .throttled => some .throttled
  | .pumpFault => some .pumpFault
  | .pumpStrained => some .pumpStrained
  | .debtReleased => some .debtReleased
  | .undosed => some .undosed

/-- A flag is set in an interval. -/
def CurrentInterval.hasFlag (i : CurrentInterval) (f : Flag) : Bool := i.flags.getLsbD f.index

/-- The Supervisory Port after a command with this code has been taken or refused at `now` with this result: the last-command
record, and the COMMAND snapshot of 16 bytes that carries it (R183, R185, R198). -/
def SupervisoryPort.recorded (p : SupervisoryPort) (now : Time) (code : Byte) (result : CommandResult) (index : Nat) :
    SupervisoryPort :=
  { p with
    selector := .command,
    snapshot := bigEndian 4 now.toNat ++ [1, code, BitVec.ofNat 8 result.code, BitVec.ofNat 8 index] ++
      bigEndian 4 now.toNat ++ bigEndian 4 (p.last.count + 1).toNat,
    last := { kind := .command, code := code, result := result, index := index, time := now,
              count := p.last.count + 1 } }

/-- The sensor bus when the transaction of `q` has just ended with its transmitter at `x`: after the pressure transaction the
temperature transaction begins in START CHECK, and after the temperature transaction the poll is over (R19, R20). -/
def SensorBus.ended (b : SensorBus) (now : Time) (q : Quantity) (x : Transmitter) : SensorBus :=
  match q with
  | .pressure =>
    { b with pressure := { x with phase := .idle },
             temperature := { b.temperature with phase := .startCheck, checkStart := now, stretchNotice := false } }
  | .temperature => { b with temperature := { x with phase := .idle } }

/-- The Pump Sequencer after a stroke has started at `now` (R124, R132). -/
def PumpSequencer.begun (p : PumpSequencer) (now : Time) : PumpSequencer :=
  { p with
    stroke := some { prime := p.condition == .priming, start := now, confirmed := false, counts := p.condition == .priming,
                     phase := .fill, phaseStart := now },
    history := p.history ++ [now], lastStart := some now, started := p.started + 1 }

end Sys2Proof.Machine
end

