-- ==== Sys2Proof/Certificates/Slice0/Obligations.lean ====
section
/-! DEFINITION. The statements for the provers. -/

open Sys2Proof Sys2Proof.Machine

/-! ## Steps -/

/-- The command at the front of the queue is the one that a step runs, with the queue's rest. -/
def Obligations.StepRunsFrontCommand : Prop :=
  ∀ (c : Instr) (rest : List Instr) (s : State), step (s.withPending (c :: rest)) = exec c (s.withPending rest)

/-- On an empty queue a step takes one of the node's own events that are due, and if none is due it lets one millisecond pass
and changes nothing else (R1; log entry 2). -/
def Obligations.IdleTakesDueEventOrTicks : Prop :=
  ∀ s : State, s.pending = [] →
    (s.dueCommands = [] → step s = .next (s.withClock (s.clock + 1))) ∧
      (s.dueCommands ≠ [] → ∃ c ∈ s.dueCommands, ∃ n, step s = exec c (s.withChoices n))

/-- Which of the node's own timed events are due (R2, R56, R79, R124, R147, R155, R161; log entry 2). -/
def Obligations.DueEventsAreThoseOfTheTimers : Prop :=
  ∀ s : State,
    (.cycleTimerExpiry ∈ s.dueCommands ↔ ∃ t, s.pulse.cycleStart = some t ∧ 1000 ≤ (s.clock - t).toNat) ∧
    (.tallyTimerExpiry ∈ s.dueCommands ↔
      ∃ t, s.tally.timerStart = some t ∧ s.cfg.tallyInterval ≤ (s.clock - t).toNat) ∧
    (.periodTimerExpiry ∈ s.dueCommands ↔
      ∃ t, s.filter.periodStart = some t ∧ s.cfg.filterPeriod * 1000 ≤ (s.clock - t).toNat) ∧
    (.intervalTimerExpiry ∈ s.dueCommands ↔
      ∃ t, s.store.timerStart = some t ∧ s.cfg.intervalLength * 60000 ≤ (s.clock - t).toNat) ∧
    (.lowDwellExpiry ∈ s.dueCommands ↔
      ∃ t, s.filter.dwell = .running t ∧ s.cfg.lowDwell * 60000 ≤ (s.clock - t).toNat) ∧
    (∀ n, .peerExpiry n ∈ s.dueCommands ↔
      (1 ≤ n ∧ n ≤ 16) ∧ ∃ f, (s.peers.entry n).status = .live f ∧
        4 * f.interval ≤ (s.clock - (s.peers.entry n).lastHeard).toNat) ∧
    (.fillEnd ∈ s.dueCommands ↔
      ∃ k, s.pump.stroke = some k ∧ k.phase = .fill ∧ s.cfg.fillTime ≤ (s.clock - k.phaseStart).toNat) ∧
    (.driveEnd ∈ s.dueCommands ↔
      ∃ k, s.pump.stroke = some k ∧ k.phase = .drive ∧ s.cfg.driveTime ≤ (s.clock - k.phaseStart).toNat) ∧
    (.confirmWindowExpiry ∈ s.dueCommands ↔
      ∃ k, s.pump.stroke = some k ∧ k.phase = .confirm ∧ s.cfg.confirmWindow ≤ (s.clock - k.phaseStart).toNat) ∧
    (.recoverEnd ∈ s.dueCommands ↔
      ∃ k, s.pump.stroke = some k ∧ k.phase = .recover ∧ s.cfg.recoverTime ≤ (s.clock - k.phaseStart).toNat) ∧
    (.historyEntryLeaves ∈ s.dueCommands ↔
      ∃ t rest, s.pump.history = t :: rest ∧ s.cfg.windowLength ≤ (s.clock - t).toNat) ∧
    (.strokeStart ∈ s.dueCommands ↔ s.mayStart = true)

/-- Every command of the table answers a next state in every state, and none but COLD_RESET moves the clock, the straps, the
queue or the count of choices. The straps are read only at a cold reset (R66, R173). That time passes only on an empty
queue is the model's choice (log entry 2), and that every command has an answer in every state is read from the rules
(log entry 4). -/
def Obligations.CommandsNeverStopAndKeepTheClock : Prop :=
  ∀ (i : Instr) (s : State), (∀ n a x y z, i ≠ .coldReset n a x y z) →
    ∃ t, exec i s = .next t ∧ t.clock = s.clock ∧ t.nodeStraps = s.nodeStraps ∧ t.addressOffset = s.addressOffset ∧
      t.pending = s.pending ∧ t.choices = s.choices

/-! ## Reset and START -/

/-- COLD_RESET (R1, R15, R32, R47, R66, R93, R96, R141, R158, R172, R177, R178, R185, R188, R194), from every state. -/
def Obligations.ColdResetLeavesTheResetValues : Prop :=
  ∀ (n : BitVec 4) (a : BitVec 2) (x y z : Bool) (s : State),
    ∃ t, exec (.coldReset n a x y z) s = .next t ∧ t.clock = 0 ∧ t.nodeNumber = n.toNat + 1 ∧
      t.portAddress = 44 + a.toNat ∧
      t.pulse = { cycleStart := none, a := 0, b := 0, satA := false, satB := false, preStart := 0,
                  last := { number := 0, a := 0, b := 0, n := 0, sourceB := false, satA := false, satB := false,
                            mismatch := false },
                  nextNumber := 1, levelA := x, levelB := y } ∧
      (∀ q, (t.sensor.of q).phase = .idle ∧ (t.sensor.of q).lastGood = none ∧ (t.sensor.of q).clamped = false ∧
        (t.sensor.of q).sampled = false ∧ (t.sensor.of q).age = 0 ∧ (t.sensor.of q).lastRaw = 0 ∧
        (t.sensor.of q).lastCause = .none ∧ (t.sensor.of q).good = 0 ∧ (t.sensor.of q).failures = 0 ∧
        (t.sensor.of q).stretchNotice = false ∧ (t.sensor.of q).stretchNotices = 0) ∧
      t.sensor.skipped = 0 ∧ t.sensor.givenP = { value := 0, kind := .substituted } ∧
      t.sensor.givenT = { value := 0, kind := .substituted } ∧
      t.conv = { q := 0, actual := 0, base := 0,
                 last := { number := 0, n := 0, va := 0, pf := 0, pfKind := .substituted, tf := 0, tfKind := .substituted,
                           f := 0, c := 0, vb := 0, q := 0 },
                 cmin := 0, cmax := 0 } ∧
      t.tally.receiver = .off ∧ t.tally.transmitter = .empty ∧ t.tally.pending = none ∧ t.tally.owed = .none ∧
      t.tally.attempt = 0 ∧ t.tally.sequence = 0 ∧ t.tally.timerStart = none ∧ t.tally.sent = 0 ∧
      t.tally.collisions = 0 ∧ t.tally.abandoned = 0 ∧ t.tally.replaced = 0 ∧ t.tally.consecutive = 0 ∧
      t.tally.goodReceived = 0 ∧ t.tally.badReceived = 0 ∧ t.tally.lastBad = .none ∧ t.tally.ownNumber = 0 ∧
      t.peers.mode = .config ∧ t.peers.switchPending = false ∧ t.peers.lastSharedDebt = 0 ∧ t.peers.lastListed = none ∧
      (∀ m, t.peers.entry m = { status := .absent, lastHeard := 0, lost := 0, implausible := 0 }) ∧
      t.dose = { debt := 0, r := 0, ru := 0, charged := 0, adopted := 0, debited := 0, released := 0, surrendered := 0,
                 waived := 0, undosed := 0, delivered := 0, excess := 0, lastOwn := none, lastAdoption := none } ∧
      t.ceilingDebt = 0 ∧
      t.pump = { condition := .unset, stroke := none, history := [], lastStart := none, missCount := 0,
                 primeRemaining := 0, behind := false, strained := false, started := 0, confirmed := 0, primed := 0,
                 missed := 0, stray := 0, level := z } ∧
      t.filter = { periodStart := none, volume := 0, delivered := 0, average := 0, lastSample := 0, lastClamped := false,
                   sampledPeriods := 0, carriedPeriods := 0, consecutiveCarried := 0, throttled := false,
                   dwell := .stopped, concLow := false } ∧
      t.store = { timerStart := none, current := none, header := 0, ring := [], nextSequence := 1, cursor := 1 } ∧
      t.port.block = List.replicate 151 0 ∧ t.port.blockState = .absent ∧ t.port.selector = .status ∧
      t.port.snapshot = statusBytes t ∧ t.port.protocolErrors = 0 ∧
      t.port.last = { kind := .none, code := 0, result := .none, index := 0, time := 0, count := 0 } ∧
      t.alarm = { conditions := 0, latches := 0, mask1 := 0, mask2 := 0 }

/-- START accepted (R180, R181): the fields are in force, the block is LOCKED and every block starts at the one instant; a
pump of class 1 or above begins its first prime stroke at that instant (R142). That the first stroke starts within
the same command is log entry 7. -/
def Obligations.StartStartsEveryBlock : Prop :=
  ∀ s : State, ColdUntilStart s → s.peers.mode = .config → s.port.blockState = .written →
    crc16 (s.port.block.take 149) = BitVec.ofNat 16 (fieldAt s.port.block 149 2) →
    (∀ i, 1 ≤ i → i ≤ 60 → checkField (readBlock s.port.block) i = true) →
    ∃ t, exec .start s = .next t ∧ t.cfg = readBlock s.port.block ∧
      t.port = { s.port.recorded s.clock 1 .done 0 with blockState := .locked } ∧
      t.alarm.mask1 = BitVec.ofNat 16 (fieldAt s.port.block 145 2) ∧
      t.alarm.mask2 = BitVec.ofNat 16 (fieldAt s.port.block 147 2) ∧
      t.alarm.conditions = 0 ∧ t.alarm.latches = 0 ∧
      t.pulse = { s.pulse with cycleStart := some s.clock, preStart := 0 } ∧
      t.sensor = { s.sensor with pressure := { s.sensor.pressure with phase := .startCheck, checkStart := s.clock } } ∧
      t.conv = { s.conv with cmin := t.cfg.cmin, cmax := t.cfg.cmax } ∧
      t.tally = { s.tally with receiver := .syncing, timerStart := some s.clock } ∧
      t.peers = { s.peers with mode := .solo .starting } ∧ t.dose = s.dose ∧
      t.filter = { s.filter with average := t.cfg.doseTarget * 256, periodStart := some s.clock } ∧
      t.store = { s.store with
                  timerStart := some s.clock,
                  current := some
                    { openTime := s.clock, startActual := 0, startBase := 0, startHeader := 0, cycles := 0, sumPf := 0,
                      sumTf := 0, delivered := 0, charged := 0, adopted := 0, released := 0, surrendered := 0,
                      waived := 0, undosed := 0, strokes := 0, missed := 0, leastLive := 0, flags := Flag.solo.bit } } ∧
      (t.cfg.capacityClass = 0 →
        t.pump = { s.pump with condition := .none, primeRemaining := t.cfg.primeCount }) ∧
      (t.cfg.capacityClass ≠ 0 →
        t.pump = { s.pump with condition := .priming, primeRemaining := t.cfg.primeCount }.begun s.clock)

/-- START refused (R180, R182): nothing but the last-command record, with the result and field index of the first test that
fails, and the COMMAND snapshot. That the command includes its selector is log entry 10. -/
def Obligations.StartRefusedChangesOnlyTheRecord : Prop :=
  ∀ s : State,
    (s.peers.mode ≠ .config → exec .start s = .next (s.withPort (s.port.recorded s.clock 1 .refusedState 0))) ∧
    (s.peers.mode = .config → s.port.blockState = .absent →
      exec .start s = .next (s.withPort (s.port.recorded s.clock 1 .refusedValue 0))) ∧
    (s.peers.mode = .config → s.port.blockState ≠ .absent →
      crc16 (s.port.block.take 149) ≠ BitVec.ofNat 16 (fieldAt s.port.block 149 2) →
      exec .start s = .next (s.withPort (s.port.recorded s.clock 1 .refusedValue 61))) ∧
    (∀ i, s.peers.mode = .config → s.port.blockState ≠ .absent →
      crc16 (s.port.block.take 149) = BitVec.ofNat 16 (fieldAt s.port.block 149 2) → 1 ≤ i → i ≤ 60 →
      checkField (readBlock s.port.block) i = false →
      (∀ j, 1 ≤ j → j < i → checkField (readBlock s.port.block) j = true) →
      exec .start s = .next (s.withPort (s.port.recorded s.clock 1 .refusedValue i)))

/-! ## Rules of the whole node -/

/-- From START until a cold reset no command changes the configuration in force, the block or the masks (R178, R181). -/
def Obligations.ConfigurationIsLockedUntilColdReset : Prop :=
  ∀ (i : Instr) (s t : State), (∀ n a x y z, i ≠ .coldReset n a x y z) → s.peers.mode ≠ .config →
    s.port.blockState = .locked → exec i s = .next t →
    t.cfg = s.cfg ∧ t.port.block = s.port.block ∧ t.port.blockState = .locked ∧ t.alarm.mask1 = s.alarm.mask1 ∧
      t.alarm.mask2 = s.alarm.mask2 ∧ t.peers.mode ≠ .config

/-- A silenced transmitter stays silent under every command but COLD_RESET: nothing is built, sent or lost (R64). -/
def Obligations.SilencedUntilColdReset : Prop :=
  ∀ (i : Instr) (s t : State), (∀ n a x y z, i ≠ .coldReset n a x y z) → s.tally.transmitter = .silent →
    exec i s = .next t →
    t.tally.transmitter = .silent ∧ t.tally.pending = s.tally.pending ∧ t.tally.owed = s.tally.owed ∧
      t.tally.sequence = s.tally.sequence ∧ t.tally.sent = s.tally.sent ∧ t.tally.collisions = s.tally.collisions ∧
      t.tally.abandoned = s.tally.abandoned ∧ t.tally.consecutive = s.tally.consecutive

/-- Each block moves only at the commands that its rules name (95_what_each_step_holds.md), and every other command but
COLD_RESET leaves it as it stands: the frame of all the commands together. Delivered, excess and debited move only at a
debit (R110), the ring only at a close (R164, R167), the cursor only at NEXT_RECORD (R169), and the header cumulative only
at a conversion or a frame (R163). -/
def Obligations.BlocksMoveOnlyAtTheirOwnCommands : Prop :=
  ∀ (i : Instr) (s t : State), (∀ n a x y z, i ≠ .coldReset n a x y z) → exec i s = .next t →
    (match i with
      | .pulseEdge (.low .confirmation) => t.pulse = s.pulse
      | .pulseEdge _ | .cycleTimerExpiry | .start => True
      | _ => t.pulse = s.pulse) ∧
    (match i with
      | .busReleased | .busHeld | .stretchNotice _ | .stretchAbort | .addressNack _ | .transactionEnd _ _
      | .recoveryEnd | .cycleTimerExpiry | .start => True
      | _ => t.sensor = s.sensor) ∧
    (match i with
      | .cycleTimerExpiry | .start => True
      | _ => t.conv = s.conv) ∧
    (match i with
      | .receiverSynced | .frameEnd _ _ _ | .tallyTimerExpiry | .lineIdle | .holdoffEnd | .deferral | .collision
      | .frameSent | .leave | .start => True
      | _ => t.tally = s.tally) ∧
    (match i with
      | .frameEnd _ _ _ | .frameSent | .peerExpiry _ | .unheard | .leave | .join | .start => True
      | _ => t.peers = s.peers) ∧
    (match i with
      | .cycleTimerExpiry | .frameEnd _ _ _ | .frameSent | .peerExpiry _ | .unheard | .confirmationPulse | .driveEnd
      | .confirmWindowExpiry | .hold | .leave => True
      | _ => t.dose = s.dose) ∧
    (match i with
      | .confirmationPulse | .driveEnd => True
      | _ => t.dose.delivered = s.dose.delivered ∧ t.dose.excess = s.dose.excess ∧ t.dose.debited = s.dose.debited) ∧
    (match i with
      | .pulseEdge (.low .confirmation) | .cycleTimerExpiry | .frameEnd _ _ _ | .frameSent | .peerExpiry _ | .unheard
      | .strokeStart | .fillEnd | .driveEnd | .confirmationPulse | .confirmWindowExpiry | .recoverEnd
      | .historyEntryLeaves | .spacingRunsOut | .periodTimerExpiry | .start | .hold | .resume | .pumpReset | .leave | .join => True
      | _ => t.pump = s.pump) ∧
    (match i with
      | .cycleTimerExpiry | .frameEnd _ _ _ | .confirmationPulse | .driveEnd | .periodTimerExpiry | .lowDwellExpiry
      | .start => True
      | _ => t.filter = s.filter) ∧
    (match i with
      | .cycleTimerExpiry | .frameEnd _ _ _ | .frameSent | .peerExpiry _ | .unheard | .confirmationPulse | .driveEnd
      | .confirmWindowExpiry | .periodTimerExpiry | .intervalTimerExpiry | .mark | .start | .hold | .leave | .join => True
      | _ => t.store.current = s.store.current) ∧
    (match i with
      | .cycleTimerExpiry | .frameEnd _ _ _ => True
      | _ => t.store.header = s.store.header) ∧
    (match i with
      | .intervalTimerExpiry | .start => True
      | _ => t.store.timerStart = s.store.timerStart) ∧
    (match i with
      | .mark | .intervalTimerExpiry => True
      | _ => t.store.ring = s.store.ring ∧ t.store.nextSequence = s.store.nextSequence) ∧
    (match i with
      | .nextRecord => True
      | _ => t.store.cursor = s.store.cursor) ∧
    (match i with
      | .cycleTimerExpiry | .tallyTimerExpiry | .frameEnd _ _ _ | .collision | .frameSent | .peerExpiry _ | .unheard
      | .confirmationPulse | .driveEnd | .confirmWindowExpiry | .periodTimerExpiry | .lowDwellExpiry | .start | .hold
      | .resume | .pumpReset | .leave | .join | .clearLatches => True
      | _ => t.alarm = s.alarm) ∧
    (match i with
      | .status | .totals | .peer _ | .record _ | .nextRecord | .config _ | .configWrite _ _ _ | .unrecognisedSelector
      | .transactionAbandoned | .start | .hold | .resume | .pumpReset | .leave | .join | .mark | .clearLatches
      | .unknown _ | .commandSelector | .writeEndedPartWay => True
      | _ => t.port = s.port) ∧
    (match i with
      | .start => True
      | _ => t.cfg = s.cfg)

/-- A stroke starts only under the conditions of R132, and a start does what R132 says: under every command but COLD_RESET the
started count either stands or rises by 1, and then the mode is SOLO or SHARED, no stroke was in flight or it ended here, the
spacing had passed, the pump dosed unthrottled at the low watermark or primed, and FILL has begun at this instant. The
conditions are tested at each change of the debt or the mode within a command (log entry 7): `debt` is the debt before the
surrender of this command, if it makes one, and `behind` is BEHIND at the start. -/
def Obligations.StrokesStartOnlyUnderTheStartConditions : Prop :=
  ∀ (i : Instr) (s t : State) (debt : Nat), (∀ n a x y z, i ≠ .coldReset n a x y z) → exec i s = .next t →
    debt = t.dose.debt + (t.dose.surrendered - s.dose.surrendered).toNat →
    t.pump.started = s.pump.started ∨
    (t.pump.started = s.pump.started + 1 ∧ t.peers.mode.isActive = true ∧
      t.pump.lastStart = some s.clock ∧
      t.pump.stroke = some { prime := t.pump.condition == .priming, start := s.clock, confirmed := false,
                             counts := t.pump.condition == .priming, phase := .fill, phaseStart := s.clock } ∧
      ((t.pump.condition = .available ∧ t.filter.throttled = false ∧ t.cfg.low * t.cfg.strokeMass ≤ debt) ∨
        (t.pump.condition = .priming ∧ 0 < t.pump.primeRemaining)) ∧
      (s.pump.stroke = none ∨ i = .recoverEnd) ∧ t.pump.history.length ≤ t.cfg.windowCap ∧
      t.pump.history.getLast? = some s.clock ∧
      ∃ behind : Bool, (behind = true → s.pump.behind = true ∨ t.cfg.high * t.cfg.strokeMass ≤ debt) ∧
        (∀ u, s.pump.lastStart = some u →
          (if t.pump.condition = .priming ∨ behind = true then t.cfg.minSpacing else t.cfg.pacedSpacing) ≤
            (s.clock - u).toNat))

/-- A stroke starts at the first instant at which the conditions hold (R132): where a command has changed one of their inputs,
no start is left waiting after it. That the test is made within the command that changes an input, at each change of the
debt or the mode and at its end, is the model's reading: log entry 7. -/
def Obligations.NoStartIsLeftWaiting : Prop :=
  ∀ (i : Instr) (s t : State), exec i s = .next t → t.startInputs ≠ s.startInputs → t.mayStart = false

/-! ## Invariants that every step keeps -/

/-- In CONFIG every block keeps its cold-reset state (R15, R32, R47, R66, R93, R96, R141, R158, R172). That the fields in force
read 0 there is log entry 21, the idle mark of the line with the holdoff and the own-frame mark log entries 11 and 15, and
START CHECK's instant log entry 25: those values are the model's choices. -/
def Obligations.StepKeepsColdUntilStart : Prop :=
  ∀ s t : State, ColdUntilStart s → step s = .next t → ColdUntilStart t

/-- From START on the block stays LOCKED, an interval is open, the cycle, tally, period and interval timers run, the receiver is
on or synchronising, and the pump is NONE exactly where the capacity class is 0 (R3, R52, R56, R119, R147, R160, R161,
R178). The premise that CONFIG stands at its
cold-reset values rules out a receiver that is on there. -/
def Obligations.StepKeepsRunningAfterStart : Prop :=
  ∀ s t : State, ColdUntilStart s → RunningAfterStart s → step s = .next t → RunningAfterStart t

/-- The two equalities of R95 hold after every step. -/
def Obligations.StepKeepsDoseBalance : Prop :=
  ∀ s t : State, DoseBalanced s.dose → step s = .next t → DoseBalanced t.dose

/-- The debt stays within ceiling × Sm (R94, R104). -/
def Obligations.StepKeepsDebtWithinCeiling : Prop :=
  ∀ s t : State, ColdUntilStart s → DebtBounded s → step s = .next t → DebtBounded t

/-- The carried remainders stay below their divisors, the average within 0 to 4,000 × 256 and the last sample within 0 to
4,000 (R40, R100, R101, R151, R152). -/
def Obligations.StepKeepsFiguresBounded : Prop :=
  ∀ s t : State, RemaindersBounded s → AverageBounded s → step s = .next t → RemaindersBounded t ∧ AverageBounded t

/-- The stroke history never holds more entries than the window cap (R133), and STRAINED is never set while BEHIND is clear
(R136). -/
def Obligations.StepKeepsPumpMarks : Prop :=
  ∀ s t : State, ColdUntilStart s → HistoryBounded s → MarksOrdered s → step s = .next t →
    HistoryBounded t ∧ MarksOrdered t

/-- The ring holds at most 128 records with consecutive sequences, modulo 2^32, up to the one before the next (R167). -/
def Obligations.StepKeepsRingConsecutive : Prop :=
  ∀ s t : State, RingConsecutive s.store → step s = .next t → RingConsecutive t.store

/-- A level condition that is true has its latch set, and no event condition is true (R189 to R191). -/
def Obligations.StepKeepsLatches : Prop :=
  ∀ s t : State, LatchesHold s.alarm → step s = .next t → LatchesHold t.alarm

/-- Eight level conditions are exactly what the rules of their owners say (R63, R91, R138, R154, R156). -/
def Obligations.StepKeepsConditionsWithTheirOwners : Prop :=
  ∀ s t : State, ConditionsFollow s → step s = .next t → ConditionsFollow t

/-- A frame is pending exactly in DEFER, HOLDOFF and SENDING, and owed only in SENDING (section 4.4, R62). -/
def Obligations.StepKeepsTransmitterConsistent : Prop :=
  ∀ s t : State, TransmitterConsistent s.tally → step s = .next t → TransmitterConsistent t.tally

/-- The own number's place in the Peer Table is never written (R68, R70). -/
def Obligations.StepKeepsOwnEntryAbsent : Prop :=
  ∀ s t : State, OwnEntryAbsent s → step s = .next t → OwnEntryAbsent t

/-- Every last good value and every fallback lies within its clamp limits, no age passes 255 (R25, R28), and at most one
transaction of the poll runs (R16, R20). -/
def Obligations.StepKeepsSensorBus : Prop :=
  ∀ s t : State, ColdUntilStart s → ValuesWithinLimits s → OneTransaction s.sensor → step s = .next t →
    ValuesWithinLimits t ∧ OneTransaction t.sensor

/-- No timer that ends of itself is outrun: time does not pass an expiry of the cycle, tally, period, interval or low-dwell
timer, the 50 ms of START CHECK, the end of a stroke phase, the end of the window of a history entry or the expiry of a LIVE
entry (R2, R19, R56, R79, R124, R133, R147, R155, R161). The time of the UNHEARD test (R85) is no such timer: it may pass
while no LIVE entry is SHARED. It rests on the idle step: log entry 2. -/
def Obligations.StepKeepsTimers : Prop :=
  ∀ s t : State, ColdUntilStart s → TimersKept s → step s = .next t → TimersKept t

/-- Every invariant holds right after a cold reset. The straps and the input levels at reset
are the model's choice: log entry 1. So are the fields in force at 0 (log entry 21), the idle mark, the holdoff and the
own-frame mark of the line (log entries 11, 15) and the instant of START CHECK (log entry 25). -/
def Obligations.ResetMeetsEveryInvariant : Prop :=
  ColdUntilStart State.reset ∧ RunningAfterStart State.reset ∧ DoseBalanced State.reset.dose ∧ DebtBounded State.reset ∧
    RemaindersBounded State.reset ∧ HistoryBounded State.reset ∧ MarksOrdered State.reset ∧ AverageBounded State.reset ∧
    RingConsecutive State.reset.store ∧ LatchesHold State.reset.alarm ∧ ConditionsFollow State.reset ∧
    TransmitterConsistent State.reset.tally ∧ OwnEntryAbsent State.reset ∧ ValuesWithinLimits State.reset ∧
    OneTransaction State.reset.sensor ∧ TimersKept State.reset

/-! ## Encodings and formulas -/

/-- Every frame that a node can build is read back by the receiver, field for field, and passes every check (R53, R54,
R196). Every command of the port is read back from the bytes of its write transaction, the selector codes 1 to 7 with the
parameter most significant byte first and the command codes 1 to 8 (R174, R183, R198); a byte outside 1 to 7 selects nothing,
a code outside 1 to 8 is UNKNOWN, a parameter that ends early and a byte too many are as R174 says, and a cut is counted
once (R175). Which rows of the table one transaction is read into, a byte too many as UNRECOGNISED_SELECTOR, an early end as
WRITE_ENDED_PART_WAY, a cut as TRANSACTION_ABANDONED after the command, a CONFIG_WRITE whole, is log entry 10; that a selector
code with none of its parameter bytes ends part-way is log entry 26 (the model's choice). -/
def Obligations.BuiltFramesAreReadBack : Prop :=
  (∀ f : Frame, (1 ≤ f.node.toNat ∧ f.node.toNat ≤ 16) →
    (∀ g, f = .tally g → 1 ≤ g.intervalCode.toNat ∧ g.intervalCode.toNat ≤ 8 ∧ g.capacity.toNat ≤ 15) →
    judge f.bytes false false = .good f) ∧
  (∀ (c : Instr) (b : List Byte), c.wellFormed = true → writeBytes c = some b → readWrite .stopped b = [c]) ∧
  (∀ (x : Byte) (rest : List Byte) (e : WriteEnd), x.toNat = 0 ∨ 7 < x.toNat →
    readWrite e (x :: rest) = [.unrecognisedSelector]) ∧
  (∀ (x : Byte) (rest : List Byte) (e : WriteEnd), x.toNat = 0 ∨ 8 < x.toNat →
    ∃ l, readWrite e (7 :: x :: rest) = .unknown x :: l) ∧
  (∀ (code : Byte) (p : List Byte), (code = 3 ∧ p.length < 1 ∨ code = 4 ∧ p.length < 4 ∨ code = 6 ∧ p.length < 2) →
    readWrite .stopped (code :: p) = [.writeEndedPartWay] ∧ readWrite .cut (code :: p) = [.transactionAbandoned]) ∧
  (∀ (c : Instr) (b : List Byte) (x : Byte) (rest : List Byte) (e : WriteEnd), c.wellFormed = true →
    writeBytes c = some b → (∀ o, c ≠ .config o) → (∀ o d v, c ≠ .configWrite o d v) → c ≠ .commandSelector →
    readWrite e (b ++ x :: rest) = [c, .unrecognisedSelector]) ∧
  (∀ (c : Instr) (b : List Byte), c.wellFormed = true → writeBytes c = some b → (∀ o d v, c ≠ .configWrite o d v) →
    readWrite .cut b = [c, .transactionAbandoned])

/-- The advertised capacity of R137, and the share of R97 with its denominator (R81): 0 at capacity 0, otherwise the floor of
c × 65,536 / D, the whole in SOLO, never above 65,536. -/
def Obligations.ShareIsCapacityOverDenominator : Prop :=
  ∀ s : State,
    (s.pump.condition = .available → s.pump.strained = false → s.advertised = s.cfg.capacityClass) ∧
    (s.pump.condition = .available → s.pump.strained = true → s.advertised = max 1 (s.cfg.capacityClass / 2)) ∧
    (s.pump.condition ≠ .available → s.advertised = 0) ∧
    (s.peers.mode = .shared → s.denominator = s.advertised + s.peers.sharedCapacity) ∧
    (s.peers.mode.isSolo = true → s.denominator = s.advertised) ∧
    (s.advertised = 0 → s.share = 0) ∧
    (0 < s.advertised → s.share = s.advertised * 65536 / s.denominator) ∧
    (0 < s.advertised → s.peers.mode.isSolo = true → s.share = 65536) ∧
    (s.peers.mode.isActive = true → s.share ≤ 65536)

/-- The combined factor lies between Cmin and Cmax for every pressure and temperature within the clamp limits (R39), for a
table that passes the START checks. -/
def Obligations.CombinedFactorLiesBetweenItsBounds : Prop :=
  ∀ (c : Cfg) (pf tf : Nat), 2 ≤ c.pointCount → c.pointCount ≤ c.points.length → 0 < c.basePressure → 0 < c.tlo →
    (∀ i, i + 1 < c.pointCount →
      c.pointPressure i < c.pointPressure (i + 1) ∧ c.pointFactor i ≤ c.pointFactor (i + 1)) →
    c.plo ≤ pf → pf ≤ c.phi → c.tlo ≤ tf → tf ≤ c.thi →
    c.plo * c.baseTemperature * c.pointFactor 0 / (c.basePressure * c.thi) ≤
        combinedFactor c pf tf (factorAt pf c.pointsInUse) ∧
      combinedFactor c pf tf (factorAt pf c.pointsInUse) ≤
        c.phi * c.baseTemperature * c.pointFactor (c.pointCount - 1) / (c.basePressure * c.tlo)

/-- The factor of R37: the first factor at or below the first pressure, the last at or above the last, and between two points
F1 + floor((F2 − F1) × (Pf − P1) / (P2 − P1)). Over factors that do not fall it does not fall as the pressure rises, and it lies
between the first and the last factor. -/
def Obligations.FactorInterpolatesTheTable : Prop :=
  ∀ (points : List (Nat × Nat)) (pf : Nat), points.Pairwise (fun x y => x.1 < y.1) →
    (∀ x, points.head? = some x → pf ≤ x.1 → factorAt pf points = x.2) ∧
    (∀ x, points.getLast? = some x → x.1 ≤ pf → factorAt pf points = x.2) ∧
    (∀ i x y, points[i]? = some x → points[i + 1]? = some y → x.1 ≤ pf → pf < y.1 →
      factorAt pf points = x.2 + (y.2 - x.2) * (pf - x.1) / (y.1 - x.1)) ∧
    (points.Pairwise (fun x y => x.2 ≤ y.2) →
      (∀ pf2, pf ≤ pf2 → factorAt pf points ≤ factorAt pf2 points) ∧
      (∀ x y, points.head? = some x → points.getLast? = some y →
        x.2 ≤ factorAt pf points ∧ factorAt pf points ≤ y.2))

/-! ## Pulses and cycle ends -/

/-- PULSE_EDGE in every form (R4, R5, R6, R12): a level that rises is counted, saturated with its mark, discarded, or added to
the pre-start count; a level that stands changes nothing, and one that falls, the confirmation input's among them (R118), is
only taken. That the row carries the falls is log entry 13. -/
def Obligations.PulseEdgesAreCounted : Prop :=
  ∀ s : State,
    exec (.pulseEdge (.low .a)) s = .next (s.withPulse { s.pulse with levelA := false }) ∧
    exec (.pulseEdge (.low .b)) s = .next (s.withPulse { s.pulse with levelB := false }) ∧
    exec (.pulseEdge (.low .confirmation)) s = .next (s.withPump { s.pump with level := false }) ∧
    (s.pulse.levelA = true → exec (.pulseEdge (.high .a)) s = .next s) ∧
    (s.pulse.levelB = true → exec (.pulseEdge (.high .b)) s = .next s) ∧
    (s.pulse.levelA = false → s.peers.mode = .config →
      (s.pulse.preStart < 4294967295 → exec (.pulseEdge (.high .a)) s =
        .next (s.withPulse { s.pulse with levelA := true, preStart := s.pulse.preStart + 1 })) ∧
      (s.pulse.preStart = 4294967295 → exec (.pulseEdge (.high .a)) s =
        .next (s.withPulse { s.pulse with levelA := true }))) ∧
    (s.pulse.levelA = false → s.peers.mode ≠ .config →
      (s.pulse.a < 8191 → exec (.pulseEdge (.high .a)) s =
        .next (s.withPulse { s.pulse with levelA := true, a := s.pulse.a + 1 })) ∧
      (s.pulse.a = 8191 → exec (.pulseEdge (.high .a)) s =
        .next (s.withPulse { s.pulse with levelA := true, satA := true }))) ∧
    (s.pulse.levelB = false →
      (s.peers.mode = .config ∨ s.cfg.dualPulse = 0 → exec (.pulseEdge (.high .b)) s =
        .next (s.withPulse { s.pulse with levelB := true })) ∧
      (s.peers.mode ≠ .config → s.cfg.dualPulse = 1 → s.pulse.b < 8191 → exec (.pulseEdge (.high .b)) s =
        .next (s.withPulse { s.pulse with levelB := true, b := s.pulse.b + 1 })) ∧
      (s.peers.mode ≠ .config → s.cfg.dualPulse = 1 → s.pulse.b = 8191 → exec (.pulseEdge (.high .b)) s =
        .next (s.withPulse { s.pulse with levelB := true, satB := true })))

/-- CYCLE_TIMER_EXPIRY, what the Pulse Counter does (R2, R7 to R11): the counts close into the cycle record, the larger channel
is taken at a mismatch, the next expiry is one second on, and the two event conditions are latched with their flags.
The blocks that no rule lets a cycle end touch are as before. -/
def Obligations.CycleEndClosesTheCounts : Prop :=
  ∀ (s : State) (t0 : Time) (m : Bool), s.pulse.cycleStart = some t0 → 1000 ≤ (s.clock - t0).toNat →
    (m = true ↔ s.cfg.dualPulse = 1 ∧ s.cfg.mismatchLimit < max s.pulse.a s.pulse.b - min s.pulse.a s.pulse.b) →
    ∃ t, exec .cycleTimerExpiry s = .next t ∧
      t.pulse = { s.pulse with
        cycleStart := some (t0 + 1000), a := 0, b := 0, satA := false, satB := false,
        nextNumber := s.pulse.nextNumber + 1,
        last := { number := s.pulse.nextNumber, a := s.pulse.a, b := s.pulse.b,
                  n := if m then max s.pulse.a s.pulse.b else s.pulse.a,
                  sourceB := m && decide (s.pulse.a < s.pulse.b), satA := s.pulse.satA, satB := s.pulse.satB,
                  mismatch := m } } ∧
      t.isLatched .pulseMismatch = (s.isLatched .pulseMismatch || m) ∧
      t.isLatched .pulseOverrange = (s.isLatched .pulseOverrange || s.pulse.satA || s.pulse.satB) ∧
      (∀ i, s.store.current = some i → ∃ j, t.store.current = some j ∧
        j.hasFlag .pulseMismatch = (i.hasFlag .pulseMismatch || m) ∧
        j.hasFlag .pulseOverrange = (i.hasFlag .pulseOverrange || s.pulse.satA || s.pulse.satB)) ∧
      t.cfg = s.cfg ∧ t.tally = s.tally ∧ t.peers = s.peers ∧ t.port = s.port ∧
      t.store.ring = s.store.ring ∧ t.store.nextSequence = s.store.nextSequence ∧ t.store.cursor = s.store.cursor ∧
      t.store.timerStart = s.store.timerStart

/-- CYCLE_TIMER_EXPIRY, what the Sensor Bus Master does (R16, R17, R27 to R30): each value is given FRESH, HELD or SUBSTITUTED
by its age and the hold cycles, its condition follows the kind, its three flags are set as R30 says, the ages rise, and the
next poll starts or is skipped. -/
def Obligations.CycleEndGivesValuesAndPolls : Prop :=
  ∀ (s : State) (t0 : Time), s.pulse.cycleStart = some t0 → 1000 ≤ (s.clock - t0).toNat →
    ∃ t, exec .cycleTimerExpiry s = .next t ∧
      (∀ v, s.sensor.pressure.sampled = true → s.sensor.pressure.lastGood = some v →
        s.sensor.pressure.age ≤ s.cfg.holdCycles →
        t.sensor.givenP = { value := v, kind := if s.sensor.pressure.age = 0 then .fresh else .held }) ∧
      (s.sensor.pressure.sampled = false ∨ s.cfg.holdCycles < s.sensor.pressure.age →
        t.sensor.givenP = { value := s.cfg.pressureFallback, kind := .substituted }) ∧
      (∀ v, s.sensor.temperature.sampled = true → s.sensor.temperature.lastGood = some v →
        s.sensor.temperature.age ≤ s.cfg.holdCycles →
        t.sensor.givenT = { value := v, kind := if s.sensor.temperature.age = 0 then .fresh else .held }) ∧
      (s.sensor.temperature.sampled = false ∨ s.cfg.holdCycles < s.sensor.temperature.age →
        t.sensor.givenT = { value := s.cfg.temperatureFallback, kind := .substituted }) ∧
      (t.isTrue .pressSubst = true ↔ t.sensor.givenP.kind = .substituted) ∧
      (t.isTrue .tempSubst = true ↔ t.sensor.givenT.kind = .substituted) ∧
      (∀ i, s.store.current = some i → ∃ j, t.store.current = some j ∧
        j.hasFlag .heldP = (i.hasFlag .heldP || t.sensor.givenP.kind == .held) ∧
        j.hasFlag .substitutedP = (i.hasFlag .substitutedP || t.sensor.givenP.kind == .substituted) ∧
        j.hasFlag .clampedP =
          (i.hasFlag .clampedP || (t.sensor.givenP.kind != .substituted && s.sensor.pressure.clamped)) ∧
        j.hasFlag .heldT = (i.hasFlag .heldT || t.sensor.givenT.kind == .held) ∧
        j.hasFlag .substitutedT = (i.hasFlag .substitutedT || t.sensor.givenT.kind == .substituted) ∧
        j.hasFlag .clampedT =
          (i.hasFlag .clampedT || (t.sensor.givenT.kind != .substituted && s.sensor.temperature.clamped))) ∧
      t.sensor.temperature = { s.sensor.temperature with age := min 255 (s.sensor.temperature.age + 1) } ∧
      (s.sensor.pressure.phase = .idle → s.sensor.temperature.phase = .idle →
        t.sensor.skipped = s.sensor.skipped ∧
        t.sensor.pressure = { s.sensor.pressure with
          age := min 255 (s.sensor.pressure.age + 1), phase := .startCheck, checkStart := s.clock,
          stretchNotice := false }) ∧
      (s.sensor.pressure.phase ≠ .idle ∨ s.sensor.temperature.phase ≠ .idle →
        t.sensor.skipped = s.sensor.skipped + 1 ∧
        t.sensor.pressure = { s.sensor.pressure with age := min 255 (s.sensor.pressure.age + 1) })

/-- CYCLE_TIMER_EXPIRY, what the Conversion Unit does (R34 to R42, R44): Va, F, C, Vb and the new Q of the cycle's N at the
values given, the cumulatives, and Vb handed on to the filter and to the header cumulative. -/
def Obligations.CycleEndConvertsTheCount : Prop :=
  ∀ (s : State) (t0 : Time), s.pulse.cycleStart = some t0 → 1000 ≤ (s.clock - t0).toNat → s.conv.q < 65536 →
    ∃ (t : State) (va f c vb : Nat), exec .cycleTimerExpiry s = .next t ∧
      va = t.pulse.last.n * s.cfg.pulseWeight ∧
      f = factorAt t.sensor.givenP.value (s.cfg.points.take s.cfg.pointCount) ∧
      c = t.sensor.givenP.value * s.cfg.baseTemperature * f / (s.cfg.basePressure * t.sensor.givenT.value) ∧
      vb * 65536 + t.conv.q = va * c + s.conv.q ∧ t.conv.q < 65536 ∧
      t.conv.actual = s.conv.actual + BitVec.ofNat 64 va ∧ t.conv.base = s.conv.base + BitVec.ofNat 64 vb ∧
      t.conv.last = { number := s.pulse.nextNumber, n := t.pulse.last.n, va := va, pf := t.sensor.givenP.value,
                      pfKind := t.sensor.givenP.kind, tf := t.sensor.givenT.value, tfKind := t.sensor.givenT.kind,
                      f := f, c := c, vb := vb, q := t.conv.q } ∧
      t.conv.cmin = s.conv.cmin ∧ t.conv.cmax = s.conv.cmax ∧
      t.filter = { s.filter with volume := s.filter.volume + BitVec.ofNat 64 vb } ∧
      t.store.header = s.store.header + BitVec.ofNat 64 vb ∧
      (∀ i, s.store.current = some i → ∃ j, t.store.current = some j ∧ j.cycles = i.cycles + 1 ∧
        j.sumPf = i.sumPf + BitVec.ofNat 64 t.sensor.givenP.value ∧
        j.sumTf = i.sumTf + BitVec.ofNat 64 t.sensor.givenT.value)

/-- CYCLE_TIMER_EXPIRY, what Dose Accounting does (R99 to R104): where no pump can take the run's gas, the undosed amount at the
whole, with its flag; otherwise the charge at the share, waived while THROTTLED, and else added to the debt under the
ceiling, with the overflow released, and BEHIND and STRAINED are tested at the new debt (R136). The interval's figures follow
the counters (R113). -/
def Obligations.CycleEndChargesTheRun : Prop :=
  ∀ (s : State) (t0 : Time), s.pulse.cycleStart = some t0 → 1000 ≤ (s.clock - t0).toNat →
    ∃ (t : State) (vb : Nat), exec .cycleTimerExpiry s = .next t ∧ vb = t.conv.last.vb ∧ WatermarksTested s t ∧
      (∀ i, s.store.current = some i → ∃ j, t.store.current = some j ∧
        j.charged = i.charged + (t.dose.charged - s.dose.charged) ∧
        j.waived = i.waived + (t.dose.waived - s.dose.waived) ∧
        j.undosed = i.undosed + (t.dose.undosed - s.dose.undosed) ∧
        j.released = i.released + (t.dose.released - s.dose.released) ∧
        j.hasFlag .undosed = (i.hasFlag .undosed ||
          (decide (0 < vb) && t.dose.lastOwn.any (fun c => c.disposition == .undosed)))) ∧
      ((s.peers.mode = .parked ∨ (s.peers.mode.isSolo = true ∧ s.advertised = 0) ∨
          (s.peers.mode = .shared ∧ s.denominator = 0)) →
        t.pump = s.pump ∧
        t.isLatched .undosed = (s.isLatched .undosed || decide (0 < vb)) ∧
        t.dose = { s.dose with
          undosed := s.dose.undosed +
            BitVec.ofNat 64 ((vb * s.cfg.doseTarget * 65536 + s.dose.ru) / 655360000000),
          ru := (vb * s.cfg.doseTarget * 65536 + s.dose.ru) % 655360000000,
          lastOwn := some { number := s.pulse.nextNumber, vb := vb, disposition := .undosed,
                            amount := (vb * s.cfg.doseTarget * 65536 + s.dose.ru) / 655360000000 } }) ∧
      (((s.peers.mode.isSolo = true ∧ 0 < s.advertised) ∨ (s.peers.mode = .shared ∧ 0 < s.denominator)) →
        ∃ sum x : Nat, sum = vb * s.cfg.doseTarget * s.share + s.dose.r ∧ x = sum / 655360000000 ∧
          (s.filter.throttled = true →
            t.pump = s.pump ∧
            t.dose = { s.dose with
              r := sum % 655360000000, waived := s.dose.waived + BitVec.ofNat 64 x,
              lastOwn := some { number := s.pulse.nextNumber, vb := vb, disposition := .waived, amount := x } }) ∧
          (s.filter.throttled = false → s.dose.debt + x ≤ s.cfg.ceiling * s.cfg.strokeMass →
            t.isLatched .debtReleased = s.isLatched .debtReleased ∧
            t.dose = { s.dose with
              r := sum % 655360000000, charged := s.dose.charged + BitVec.ofNat 64 x, debt := s.dose.debt + x,
              lastOwn := some { number := s.pulse.nextNumber, vb := vb, disposition := .charged, amount := x } }) ∧
          (s.filter.throttled = false → s.cfg.ceiling * s.cfg.strokeMass < s.dose.debt + x →
            t.isLatched .debtReleased = true ∧
            t.dose = { s.dose with
              r := sum % 655360000000, charged := s.dose.charged + BitVec.ofNat 64 x,
              debt := s.cfg.ceiling * s.cfg.strokeMass,
              released := s.dose.released +
                BitVec.ofNat 64 (s.dose.debt + x - s.cfg.ceiling * s.cfg.strokeMass),
              lastOwn := some { number := s.pulse.nextNumber, vb := vb, disposition := .charged, amount := x } }))

/-! ## The sensor bus -/

/-- BUS_RELEASED and BUS_HELD in START CHECK (R19), STRETCH_NOTICE and STRETCH_ABORT in the transfer (R22, R23): the running
transmitter's state changes as given and nothing else does. BUS_RELEASED in the transfer is the going on from ADDRESS WRITE
through POINTER, ADDRESS READ and DATA to STOP (R20). That the row stands for it, and the phase that a notice names, are
log entry 6, the instant of the failure log entry 8. -/
def Obligations.BusChecksAndStretches : Prop :=
  ∀ (s : State) (q : Quantity) (x : Transmitter), s.sensor.active = some q → x = s.sensor.of q →
    (x.phase = .startCheck → (s.clock - x.checkStart).toNat ≤ 50 →
      exec .busReleased s = .next (s.withSensor (s.sensor.set q { x with phase := .addressWrite }))) ∧
    (∀ p, x.phase = .addressWrite ∧ p = .pointer ∨ x.phase = .pointer ∧ p = .addressRead ∨
        x.phase = .addressRead ∧ p = .data ∨ x.phase = .data ∧ p = .stop ∨ x.phase = .stop ∧ p = .stop →
      exec .busReleased s = .next (s.withSensor (s.sensor.set q { x with phase := p }))) ∧
    (x.phase = .startCheck → 50 ≤ (s.clock - x.checkStart).toNat →
      exec .busHeld s = .next (s.withSensor (s.sensor.set q
        { x with phase := .recovery, failures := x.failures + 1, lastCause := .busHeld }))) ∧
    (∀ p, x.phase.reaches (phaseOf p) = true →
      exec (.stretchNotice p) s = .next (s.withSensor (s.sensor.set q
        { x with phase := phaseOf p, stretchNotice := true,
                 stretchNotices := if x.stretchNotice then x.stretchNotices else x.stretchNotices + 1 }))) ∧
    (x.phase.inTransfer = true →
      exec .stretchAbort s = .next (s.withSensor (s.sensor.set q
        { x with phase := .recovery, failures := x.failures + 1, lastCause := .stretchAbort })))

/-- ADDRESS_NACK (R21), RECOVERY_END (R23) and TRANSACTION_END (R20, R25, R26) end the running transaction: a refused byte or
a status byte without its valid bit fails, a valid value is clamped and kept, and the next transaction of the poll
begins. That the two rows are taken from any earlier phase of the transfer is log entry 6, that a refused byte's own phase is
the last of them, with the STOP after it held there too, log entry 27, and that RECOVERY_END records no failure of its own
log entry 8. -/
def Obligations.TransactionsEnd : Prop :=
  ∀ (s : State) (q : Quantity) (x : Transmitter), s.sensor.active = some q → x = s.sensor.of q →
    (∀ b, x.phase.reaches (nackPhase b) = true →
      exec (.addressNack b) s = .next (s.withSensor (s.sensor.ended s.clock q
        { x with failures := x.failures + 1,
                 lastCause := if b = .pointer then .pointerNack else .addressNack }))) ∧
    (x.phase = .recovery → exec .recoveryEnd s = .next (s.withSensor (s.sensor.ended s.clock q x))) ∧
    (∀ (v : BitVec 24) (st : Byte), x.phase.inTransfer = true → st.getLsbD 0 = false →
      exec (.transactionEnd v st) s = .next (s.withSensor (s.sensor.ended s.clock q
        { x with lastRaw := v, failures := x.failures + 1, lastCause := .notValid }))) ∧
    (∀ (v : BitVec 24) (st : Byte) (low high : Nat), x.phase.inTransfer = true → st.getLsbD 0 = true →
      low = s.cfg.clampLow q → high = s.cfg.clampHigh q →
      exec (.transactionEnd v st) s = .next (s.withSensor (s.sensor.ended s.clock q
        { x with lastRaw := v, age := 0, sampled := true, good := x.good + 1,
                 clamped := decide (v.toNat < low ∨ high < v.toNat),
                 lastGood := some (if v.toNat < low then low else if high < v.toNat then high else v.toNat) })))

/-! ## The tally line -/

/-- RECEIVER_SYNCED (R52), LINE_IDLE, HOLDOFF_END and DEFERRAL (R51, R59): the holdoff is node number × 8 + attempt index × 96
bit times, and a deferral keeps the attempt index. The idle mark is log entry 11, the own-frame mark, which only a bit on an
idle line takes away here, log entry 15. -/
def Obligations.LineEventsMoveTheTransmitter : Prop :=
  ∀ s : State,
    (s.tally.receiver = .syncing →
      exec .receiverSynced s = .next (s.withTally { s.tally with receiver := .on, lineIdle := true })) ∧
    (s.tally.transmitter = .defer →
      exec .lineIdle s = .next (s.withTally
        { s.tally with lineIdle := true, transmitter := .holdoff,
                       holdoff := s.nodeNumber * 8 + s.tally.attempt * 96 })) ∧
    (s.tally.transmitter ≠ .defer → exec .lineIdle s = .next (s.withTally { s.tally with lineIdle := true })) ∧
    (s.tally.transmitter = .holdoff → s.tally.lineIdle = true →
      exec .holdoffEnd s = .next (s.withTally { s.tally with transmitter := .sending, lineIdle := false, ownOnLine := none })) ∧
    (∀ own, own = (if s.tally.lineIdle then none else s.tally.ownOnLine) →
      (s.tally.transmitter = .holdoff →
        exec .deferral s = .next (s.withTally
          { s.tally with transmitter := .defer, lineIdle := false, ownOnLine := own })) ∧
      (s.tally.transmitter ≠ .holdoff →
        exec .deferral s = .next (s.withTally { s.tally with lineIdle := false, ownOnLine := own })))

/-- TALLY_TIMER_EXPIRY (R56, R57, R62, R64): the timer keeps its phase; in SOLO or SHARED the TALLY of this instant is built
with the next sequence, in place of a waiting one, which is counted, or is owed while SENDING; nothing is built in
PARKED or SILENT. The idle mark that sends it to HOLDOFF or DEFER is log entry 11. -/
def Obligations.TallyTimerBuildsTheFrame : Prop :=
  ∀ (s : State) (t0 : Time) (p : Pending), s.tally.timerStart = some t0 →
    s.cfg.tallyInterval ≤ (s.clock - t0).toNat →
    p = { frame := .tally
            { node := BitVec.ofNat 8 s.nodeNumber, sequence := s.tally.sequence,
              intervalCode := BitVec.ofNat 8 (s.cfg.tallyInterval / 250),
              shared := s.peers.mode == .shared || s.peers.mode.isSolo && s.peers.switchPending,
              capacity := BitVec.ofNat 8 s.advertised, litres := BitVec.ofNat 32 (s.conv.base.toNat / 1000000),
              delivered := s.dose.delivered.setWidth 32, released := s.dose.released.setWidth 32,
              debt := BitVec.ofNat 32 s.dose.debt, target := BitVec.ofNat 16 s.cfg.doseTarget,
              heard := s.peers.heardSet },
          builtShared := s.peers.mode == .shared } →
    (∀ n, 1 ≤ n → n ≤ 16 → s.peers.heardSet.getLsbD (n - 1) = (s.peers.entry n).isLive) ∧
    (s.peers.mode.isActive = false ∨ s.tally.transmitter = .silent →
      exec .tallyTimerExpiry s =
        .next (s.withTally { s.tally with timerStart := some (t0 + BitVec.ofNat 64 s.cfg.tallyInterval) })) ∧
    (s.peers.mode.isActive = true → s.tally.transmitter = .sending →
      exec .tallyTimerExpiry s =
        .next (s.withTally { s.tally with
          timerStart := some (t0 + BitVec.ofNat 64 s.cfg.tallyInterval),
          owed := if s.tally.owed = .leave then .leave else .tally })) ∧
    (s.peers.mode.isActive = true → s.tally.transmitter = .empty →
      exec .tallyTimerExpiry s =
        .next (s.withTally { s.tally with
          timerStart := some (t0 + BitVec.ofNat 64 s.cfg.tallyInterval), pending := some p,
          sequence := s.tally.sequence + 1, attempt := 0, holdoff := s.nodeNumber * 8,
          transmitter := if s.tally.lineIdle then .holdoff else .defer })) ∧
    (s.peers.mode.isActive = true → s.tally.transmitter = .defer ∨ s.tally.transmitter = .holdoff →
      ∃ t, exec .tallyTimerExpiry s = .next (t.withTally { s.tally with
          timerStart := some (t0 + BitVec.ofNat 64 s.cfg.tallyInterval), pending := some p,
          sequence := s.tally.sequence + 1, attempt := 0, holdoff := s.nodeNumber * 8,
          transmitter := if s.tally.lineIdle then .holdoff else .defer,
          abandoned := s.tally.abandoned + 1, replaced := s.tally.replaced + 1,
          consecutive := min 255 (s.tally.consecutive + 1) }) ∧
        t = s.withAlarm t.alarm ∧ (t.isTrue .linkFault = true ↔ 8 ≤ min 255 (s.tally.consecutive + 1)))

/-- COLLISION in SENDING (R60, R62, R63): the collision is counted; below the fourth attempt the frame waits in DEFER, at the
fourth it is abandoned, and LINK FAULT is true exactly from the eighth frame abandoned in a row; an owed frame is built
in its place. No block but the Interface and the Alarm Unit changes. The idle mark is log entry 11. -/
def Obligations.CollisionsRetryOrAbandon : Prop :=
  ∀ s : State, s.tally.transmitter = .sending →
    (s.tally.attempt < 3 → s.tally.owed = .none →
      exec .collision s = .next (s.withTally { s.tally with
        collisions := s.tally.collisions + 1, lineIdle := false, transmitter := .defer,
        attempt := s.tally.attempt + 1 })) ∧
    (3 ≤ s.tally.attempt → s.tally.owed = .none →
      ∃ t, exec .collision s = .next t ∧ t = (s.withTally t.tally).withAlarm t.alarm ∧
        t.tally = { s.tally with
          collisions := s.tally.collisions + 1, lineIdle := false, transmitter := .empty, attempt := 0, pending := none,
          abandoned := s.tally.abandoned + 1, consecutive := min 255 (s.tally.consecutive + 1) } ∧
        (t.isTrue .linkFault = true ↔ 8 ≤ t.tally.consecutive)) ∧
    (s.tally.owed ≠ .none →
      ∃ (t : State) (f : Frame), exec .collision s = .next t ∧ t = (s.withTally t.tally).withAlarm t.alarm ∧
        t.tally = { s.tally with
          collisions := s.tally.collisions + 1, lineIdle := false, transmitter := .defer, attempt := 0,
          pending := some { frame := f, builtShared := s.peers.mode == .shared }, owed := .none,
          sequence := s.tally.sequence + 1, holdoff := s.nodeNumber * 8,
          abandoned := s.tally.abandoned + 1,
          replaced := if s.tally.attempt < 3 then s.tally.replaced + 1 else s.tally.replaced,
          consecutive := min 255 (s.tally.consecutive + 1) } ∧
        f.sequence = s.tally.sequence ∧ f.node = BitVec.ofNat 8 s.nodeNumber ∧
        ((∃ g, f = .leave g ∧ g.released = s.dose.released.setWidth 32) ↔ s.tally.owed = .leave) ∧
        (t.isTrue .linkFault = true ↔ 8 ≤ t.tally.consecutive))

/-- FRAME_SENT (R61, R84): the counts, the end of LINK FAULT, and what a sent SHARED TALLY does by the mode: a SOLO node whose
frame was built in SOLO becomes SHARED, or ends in SOLO(ALONE) with no LIVE entry left. The frame is marked as the node's
own for the frame end that follows (R55; log entry 15). The order of report and build is log entry 12, the idle mark log
entry 11. -/
def Obligations.FrameSentCountsAndReports : Prop :=
  ∀ (s : State) (p : Pending), s.tally.transmitter = .sending → s.tally.pending = some p →
    ∃ t, exec .frameSent s = .next t ∧ t.tally.sent = s.tally.sent + 1 ∧ t.tally.consecutive = 0 ∧
      t.tally.owed = .none ∧ t.tally.attempt = 0 ∧ t.isTrue .linkFault = false ∧
      t.tally.ownOnLine = some p.frame ∧ t.tally.lineIdle = false ∧
      t.cfg = s.cfg ∧ t.pulse = s.pulse ∧ t.sensor = s.sensor ∧ t.conv = s.conv ∧ t.filter = s.filter ∧
      t.port = s.port ∧ t.peers.entries = s.peers.entries ∧
      (s.tally.owed = .none → t.tally.pending = none ∧ t.tally.transmitter = .empty ∧
        t.tally.sequence = s.tally.sequence) ∧
      (s.tally.owed = .tally → t.tally.transmitter = .defer ∧ t.tally.sequence = s.tally.sequence + 1 ∧
        ∃ g, t.tally.pending = some { frame := .tally g, builtShared := t.peers.mode == .shared } ∧
          g.sequence = s.tally.sequence) ∧
      (s.tally.owed = .leave → t.tally.transmitter = .defer ∧ t.tally.sequence = s.tally.sequence + 1 ∧
        ∃ g, t.tally.pending = some { frame := .leave g, builtShared := t.peers.mode == .shared } ∧
          g.released = s.dose.released.setWidth 32) ∧
      (∀ f, p.frame = .tally f → f.shared = true →
        (s.peers.mode = .shared → t.dose = s.dose ∧ t.peers = { s.peers with lastSharedDebt := f.debt }) ∧
        (s.peers.mode.maySwitch = true → p.builtShared = false → 0 < s.peers.liveCount →
          t.dose = s.dose ∧
          t.peers = { s.peers with mode := .shared, switchPending := false, lastSharedDebt := f.debt,
                                   lastListed := some s.clock }) ∧
        (s.peers.mode.maySwitch = true → p.builtShared = false → s.peers.liveCount = 0 →
          t.isTrue .alone = true ∧
          t.dose = { s.dose with
            debt := s.dose.debt - min s.dose.debt f.debt.toNat,
            surrendered := s.dose.surrendered + BitVec.ofNat 64 (min s.dose.debt f.debt.toNat) } ∧
          t.peers = { s.peers with mode := .solo .alone, switchPending := false, lastSharedDebt := f.debt,
                                   lastListed := some s.clock }) ∧
        (s.peers.mode = .solo .duplicate ∨ s.peers.mode = .parked ∨ s.peers.mode = .config ∨
            (s.peers.mode.isSolo = true ∧ p.builtShared = true) →
          t.dose = s.dose ∧ t.peers = s.peers)) ∧
      ((∀ f, p.frame = .tally f → f.shared = false) → t.dose = s.dose ∧ t.peers = s.peers)

/-! ## Peers -/

/-- FRAME_END with a bad frame, with the node's own frame, or with the receiver not on (R52, R53, R55): a bad frame is counted
with the cause of the first check that fails; the frame that the node has just sent is neither judged, counted nor delivered,
whatever the checks would find, before the line is idle and after; nothing else in the node changes. The idle mark is log
entry 11, the own-frame mark log entry 15. -/
def Obligations.BadFramesAreOnlyCounted : Prop :=
  ∀ (b : List Byte) (fe ol : Bool) (s : State),
    (s.tally.receiver ≠ .on → exec (.frameEnd b fe ol) s = .next s) ∧
    (∀ f, s.tally.receiver = .on → s.tally.ownOnLine = some f → s.tally.lineIdle = false ∨ f.bytes <+: b →
      exec (.frameEnd b fe ol) s = .next (s.withTally { s.tally with lineIdle := true, ownOnLine := none })) ∧
    (∀ cause, s.tally.receiver = .on → s.isOwnFrame b = false →
      (fe = true ∧ cause = .framing ∨
        fe = false ∧ (b.length < 3 ∨ ol = true) ∧ cause = .length ∨
        fe = false ∧ ol = false ∧ 3 ≤ b.length ∧
          crc16 (b.take (b.length - 2)) ≠ BitVec.ofNat 16 (fieldAt b (b.length - 2) 2) ∧ cause = .crc ∨
        fe = false ∧ ol = false ∧ 3 ≤ b.length ∧
          crc16 (b.take (b.length - 2)) = BitVec.ofNat 16 (fieldAt b (b.length - 2) 2) ∧
          (byteAt b 1 ≠ 1 ∧ byteAt b 1 ≠ 2 ∧ cause = .kind ∨
            byteAt b 1 = 1 ∧ b.length ≠ 28 ∧ cause = .length ∨
            byteAt b 1 = 2 ∧ b.length ≠ 9 ∧ cause = .length ∨
            (byteAt b 1 = 1 ∧ b.length = 28 ∨ byteAt b 1 = 2 ∧ b.length = 9) ∧
              ((byteAt b 0).toNat = 0 ∨ 16 < (byteAt b 0).toNat) ∧ cause = .node ∨
            byteAt b 1 = 1 ∧ b.length = 28 ∧ 1 ≤ (byteAt b 0).toNat ∧ (byteAt b 0).toNat ≤ 16 ∧
              ((byteAt b 3).toNat = 0 ∨ 8 < (byteAt b 3).toNat ∨ 1 < (byteAt b 4).toNat ∨ 15 < (byteAt b 5).toNat) ∧
              cause = .field)) →
      exec (.frameEnd b fe ol) s = .next (s.withTally
        { s.tally with lineIdle := true, ownOnLine := none, badReceived := s.tally.badReceived + 1, lastBad := cause }))

/-- FRAME_END with a good TALLY for an entry that is not LIVE (R55, R71, R80, R83): the peer is admitted with baselines only.
Nothing is charged, adopted or added to the filter, and the other entries stand. The idle mark is log entry 11, the own-frame
mark log entry 15. -/
def Obligations.AdmissionTakesBaselinesOnly : Prop :=
  ∀ (b : List Byte) (fe ol : Bool) (s : State) (f : TallyFrame) (n : Nat), s.tally.receiver = .on →
    s.isOwnFrame b = false → judge b fe ol = .good (.tally f) → n = f.node.toNat → n ≠ s.nodeNumber →
    s.peers.entries.length = 16 → (s.peers.entry n).isLive = false →
    ∃ t, exec (.frameEnd b fe ol) s = .next t ∧
      t.tally = { s.tally with lineIdle := true, ownOnLine := none, goodReceived := s.tally.goodReceived + 1 } ∧
      t.peers.entry n =
        { s.peers.entry n with
          lastHeard := s.clock,
          status := .live
            { shared := f.shared, sequence := f.sequence, interval := f.intervalCode.toNat * 250,
              capacity := f.capacity.toNat, litres := f.litres, delivered := f.delivered, released := f.released,
              debt := f.debt, sharedDebt := if f.shared then some f.debt else none, target := f.target,
              differs := f.target.toNat != s.cfg.doseTarget, listed := f.heard.getLsbD (s.nodeNumber - 1) } } ∧
      (∀ m, 1 ≤ m → m ≠ n → t.peers.entry m = s.peers.entry m) ∧
      (f.heard.getLsbD (s.nodeNumber - 1) = true →
        t.peers.lastListed = some s.clock ∧
        t.peers.switchPending = (s.peers.switchPending || s.peers.mode.maySwitch)) ∧
      (f.heard.getLsbD (s.nodeNumber - 1) = false →
        t.peers.lastListed = s.peers.lastListed ∧ t.peers.switchPending = s.peers.switchPending) ∧
      t.peers.mode = s.peers.mode ∧ t.peers.lastSharedDebt = s.peers.lastSharedDebt ∧
      t.cfg = s.cfg ∧ t.pulse = s.pulse ∧ t.sensor = s.sensor ∧ t.conv = s.conv ∧ t.dose = s.dose ∧ t.pump = s.pump ∧
      t.filter = s.filter ∧ t.port = s.port ∧ t.alarm = s.alarm ∧ t.store.header = s.store.header

/-- FRAME_END with a good TALLY for a LIVE entry, node and peer not both SHARED (R70, R72, R73, R77, R80, R83): a repeated
sequence changes nothing but the count; otherwise the entry takes every field of the frame, and a listing moves the
last-listed time and, in SOLO other than DUPLICATE, sets switch pending; plausible deltas reach the filter and the header
cumulative; implausible ones yield nothing, are counted, and raise PEER IMPLAUSIBLE with its flag. The idle mark is log entry
11, the own-frame mark log entry 15. -/
def Obligations.TalliesOfLivePeersReachTheFilter : Prop :=
  ∀ (b : List Byte) (fe ol : Bool) (s : State) (f : TallyFrame) (n : Nat) (e : Entry) (last : LiveFields) (bad : Bool),
    s.tally.receiver = .on → s.isOwnFrame b = false → judge b fe ol = .good (.tally f) → n = f.node.toNat →
    n ≠ s.nodeNumber → s.peers.entries.length = 16 → e = s.peers.entry n → e.status = .live last →
    (bad = true ↔ 100000 < (f.litres - last.litres).toNat ∨ 10000000 < (f.delivered - last.delivered).toNat ∨
      40000000 < (f.released - last.released).toNat) →
    (f.sequence = last.sequence →
      exec (.frameEnd b fe ol) s = .next (s.withTally
        { s.tally with lineIdle := true, ownOnLine := none, goodReceived := s.tally.goodReceived + 1 })) ∧
    (f.sequence ≠ last.sequence → (s.peers.mode ≠ .shared ∨ last.shared = false) →
      ∃ (t : State) (g : LiveFields), exec (.frameEnd b fe ol) s = .next t ∧ t.dose = s.dose ∧ t.pump = s.pump ∧
        t.tally = { s.tally with lineIdle := true, ownOnLine := none, goodReceived := s.tally.goodReceived + 1 } ∧
        t.cfg = s.cfg ∧ t.pulse = s.pulse ∧ t.sensor = s.sensor ∧ t.conv = s.conv ∧ t.port = s.port ∧
        t.peers.mode = s.peers.mode ∧ t.peers.lastSharedDebt = s.peers.lastSharedDebt ∧
        (∀ m, 1 ≤ m → m ≠ n → t.peers.entry m = s.peers.entry m) ∧
        (g.listed = true →
          t.peers.lastListed = some s.clock ∧
          t.peers.switchPending = (s.peers.switchPending || s.peers.mode.maySwitch)) ∧
        (g.listed = false →
          t.peers.lastListed = s.peers.lastListed ∧ t.peers.switchPending = s.peers.switchPending) ∧
        t.peers.entry n =
          { status := .live g, lastHeard := s.clock,
            lost := e.lost + (f.sequence - last.sequence - 1).zeroExtend 32,
            implausible := if bad then e.implausible + 1 else e.implausible } ∧
        g.shared = f.shared ∧ g.sequence = f.sequence ∧ g.interval = f.intervalCode.toNat * 250 ∧
        g.capacity = f.capacity.toNat ∧ g.litres = f.litres ∧ g.delivered = f.delivered ∧ g.released = f.released ∧
        g.debt = f.debt ∧ g.sharedDebt = (if f.shared then some f.debt else last.sharedDebt) ∧
        g.target = f.target ∧ g.differs = (f.target.toNat != s.cfg.doseTarget) ∧
        g.listed = f.heard.getLsbD (s.nodeNumber - 1) ∧
        (bad = false →
          t.filter = { s.filter with
            volume := s.filter.volume + BitVec.ofNat 64 ((f.litres - last.litres).toNat * 1000000),
            delivered := s.filter.delivered + BitVec.ofNat 64 (f.delivered - last.delivered).toNat } ∧
          t.store.header = s.store.header + BitVec.ofNat 64 ((f.litres - last.litres).toNat * 1000000) ∧
          t.alarm = s.alarm) ∧
        (bad = true → t.filter = s.filter ∧ t.store.header = s.store.header ∧
          t.isLatched .peerImplausible = true ∧
          (∀ i, s.store.current = some i → ∃ j, t.store.current = some j ∧ j.hasFlag .peerImplausible = true)))

/-- FRAME_END with a good TALLY of a SHARED peer at a SHARED node (R72 to R77, R80, R81, R83, R100 to R106). The entry takes
every field of the frame, and a listing moves the last-listed time and sets no mark. A plausible frame between SHARED frames charges its litre delta at the share of the new denominator, waived
while THROTTLED and otherwise taken into debt under the ceiling with the overflow released, and then adopts a released delta
above 0 at the capacity that the charge leaves, with the peer left out; a frame that says SOLO adopts the larger of the
peer's last SHARED-frame debt and the released delta, whether that delta is 0 or not. An implausible frame yields no delta:
it raises PEER IMPLAUSIBLE, and adopts only at the change to SOLO. The idle mark is log entry 11, the own-frame mark log
entry 15. -/
def Obligations.ReleasedOdorantIsAdopted : Prop :=
  ∀ (b : List Byte) (fe ol : Bool) (s : State) (f : TallyFrame) (n : Nat) (e : Entry) (last : LiveFields) (bad : Bool)
    (dL dD dR rest ceiling : Nat) (charged : DoseAccounting) (strained : Bool),
    s.tally.receiver = .on → s.isOwnFrame b = false → judge b fe ol = .good (.tally f) → n = f.node.toNat →
    n ≠ s.nodeNumber → s.peers.entries.length = 16 → e = s.peers.entry n → e.status = .live last →
    f.sequence ≠ last.sequence → s.peers.mode = .shared → last.shared = true →
    dL = (f.litres - last.litres).toNat → dD = (f.delivered - last.delivered).toNat →
    dR = (f.released - last.released).toNat →
    (bad = true ↔ 100000 < dL ∨ 10000000 < dD ∨ 40000000 < dR) →
    rest = (s.peers.setEntry n Entry.absent).sharedCapacity → ceiling = s.cfg.ceiling * s.cfg.strokeMass →
    charged = s.dose.charging ceiling
      (dL * 1000000 * s.cfg.doseTarget * shareBeside s.advertised (rest + f.capacity.toNat) + s.dose.r)
      s.filter.throttled →
    strained = (if charged.debt = s.dose.debt then s.pump.strained
      else if charged.debt < s.cfg.hysteresis * s.cfg.strokeMass then false
      else s.pump.strained || decide (s.cfg.strain * s.cfg.strokeMass ≤ charged.debt)) →
    ∃ (t : State) (g : LiveFields), exec (.frameEnd b fe ol) s = .next t ∧
      t.tally = { s.tally with lineIdle := true, ownOnLine := none, goodReceived := s.tally.goodReceived + 1 } ∧
      t.peers.entry n =
        { status := .live g, lastHeard := s.clock, lost := e.lost + (f.sequence - last.sequence - 1).zeroExtend 32,
          implausible := if bad then e.implausible + 1 else e.implausible } ∧
      g.shared = f.shared ∧ g.sequence = f.sequence ∧ g.interval = f.intervalCode.toNat * 250 ∧
      g.capacity = f.capacity.toNat ∧ g.litres = f.litres ∧ g.delivered = f.delivered ∧ g.released = f.released ∧
      g.debt = f.debt ∧ g.sharedDebt = (if f.shared then some f.debt else last.sharedDebt) ∧
      g.target = f.target ∧ g.differs = (f.target.toNat != s.cfg.doseTarget) ∧
      g.listed = f.heard.getLsbD (s.nodeNumber - 1) ∧
      t.peers.lastListed = (if g.listed then some s.clock else s.peers.lastListed) ∧
      t.peers.switchPending = s.peers.switchPending ∧ t.peers.lastSharedDebt = s.peers.lastSharedDebt ∧
      (∀ m, 1 ≤ m → m ≠ n → t.peers.entry m = s.peers.entry m) ∧ t.peers.mode = .shared ∧
      t.cfg = s.cfg ∧ t.pulse = s.pulse ∧ t.sensor = s.sensor ∧ t.conv = s.conv ∧ t.port = s.port ∧
      (bad = true →
        t.filter = s.filter ∧ t.store.header = s.store.header ∧ t.isLatched .peerImplausible = true ∧
        (∀ i, s.store.current = some i → ∃ j, t.store.current = some j ∧ j.hasFlag .peerImplausible = true) ∧
        (f.shared = true → t.dose = s.dose) ∧
        (f.shared = false →
          t.dose = s.dose.adopting ceiling .modeChange n (last.sharedDebt.getD 0).toNat s.advertised rest)) ∧
      (bad = false →
        t.filter = { s.filter with
          volume := s.filter.volume + BitVec.ofNat 64 (dL * 1000000),
          delivered := s.filter.delivered + BitVec.ofNat 64 dD } ∧
        t.store.header = s.store.header + BitVec.ofNat 64 (dL * 1000000) ∧
        t.isLatched .peerImplausible = s.isLatched .peerImplausible ∧
        (f.shared = true → dR = 0 → t.dose = charged) ∧
        (f.shared = true → 0 < dR → t.dose = charged.adopting ceiling .released n dR
          (s.withPump { s.pump with strained := strained }).advertised rest) ∧
        (f.shared = false →
          t.dose = s.dose.adopting ceiling .modeChange n (max (last.sharedDebt.getD 0).toNat dR) s.advertised rest))

/-- FRAME_END with a good LEAVE (R70, R75, R78, R86, R105): a repeated sequence changes nothing but the count; otherwise the
entry becomes LEFT. A SHARED node adopts the plausible released delta of a SHARED leaver, above 0, at the share with the
leaver left out and under the ceiling; left with no LIVE entry, it then goes to SOLO(ALONE) and surrenders. An implausible
delta is counted and raises PEER IMPLAUSIBLE. The idle mark is log entry 11, the own-frame mark log entry 15. -/
def Obligations.LeaveFramesMakeTheEntryLeft : Prop :=
  ∀ (b : List Byte) (fe ol : Bool) (s : State) (f : LeaveFrame) (n : Nat) (e : Entry) (rest : Nat),
    s.tally.receiver = .on → s.isOwnFrame b = false → judge b fe ol = .good (.leave f) → n = f.node.toNat →
    n ≠ s.nodeNumber → s.peers.entries.length = 16 → e = s.peers.entry n →
    rest = (s.peers.setEntry n Entry.absent).sharedCapacity →
    (e.isLive = false →
      exec (.frameEnd b fe ol) s = .next ((s.withTally
        { s.tally with lineIdle := true, ownOnLine := none, goodReceived := s.tally.goodReceived + 1 }).withPeers
          (s.peers.setEntry n { e with status := .left, lastHeard := s.clock }))) ∧
    (∀ last, e.status = .live last → f.sequence = last.sequence →
      exec (.frameEnd b fe ol) s = .next (s.withTally
        { s.tally with lineIdle := true, ownOnLine := none, goodReceived := s.tally.goodReceived + 1 })) ∧
    (∀ (last : LiveFields) (dR : Nat) (bad : Bool) (adopted : DoseAccounting), e.status = .live last →
      f.sequence ≠ last.sequence → dR = (f.released - last.released).toNat → (bad = true ↔ 40000000 < dR) →
      adopted = (if bad = false ∧ 0 < dR ∧ last.shared = true then
          s.dose.adopting (s.cfg.ceiling * s.cfg.strokeMass) .released n dR s.advertised rest
        else s.dose) →
      ∃ t, exec (.frameEnd b fe ol) s = .next t ∧ t.conv = s.conv ∧ t.filter = s.filter ∧
        t.tally = { s.tally with lineIdle := true, ownOnLine := none, goodReceived := s.tally.goodReceived + 1 } ∧
        t.peers.entry n =
          { status := .left, lastHeard := s.clock, lost := e.lost + (f.sequence - last.sequence - 1).zeroExtend 32,
            implausible := if bad then e.implausible + 1 else e.implausible } ∧
        (∀ m, 1 ≤ m → m ≠ n → t.peers.entry m = s.peers.entry m) ∧
        t.isLatched .peerLost = s.isLatched .peerLost ∧
        t.isLatched .peerImplausible = (s.isLatched .peerImplausible || bad) ∧
        (bad = true → ∀ i, s.store.current = some i →
          ∃ j, t.store.current = some j ∧ j.hasFlag .peerImplausible = true) ∧
        (s.peers.mode ≠ .shared → t.dose = s.dose ∧ t.peers.mode = s.peers.mode) ∧
        (s.peers.mode = .shared → (∃ m, 1 ≤ m ∧ m ≤ 16 ∧ m ≠ n ∧ (s.peers.entry m).isLive = true) →
          t.peers.mode = .shared ∧ t.dose = adopted) ∧
        (s.peers.mode = .shared → (∀ m, 1 ≤ m → m ≤ 16 → m ≠ n → (s.peers.entry m).isLive = false) →
          t.peers.mode = .solo .alone ∧ t.isTrue .alone = true ∧
          t.dose = adopted.surrendering s.peers.lastSharedDebt))

/-- FRAME_END with a good frame bearing the own number (R55, R88, R64, R87): counted; unless the transmitter is silent already
the node goes to SOLO(DUPLICATE), surrenders if it was SHARED, raises DUPLICATE NUMBER and is silenced. The frame
is not the one that the node has just sent (log entry 15); the idle mark is log entry 11. -/
def Obligations.OwnNumberHeardSilencesTheNode : Prop :=
  ∀ (b : List Byte) (fe ol : Bool) (s : State) (f : Frame), s.tally.receiver = .on →
    s.isOwnFrame b = false → judge b fe ol = .good f → f.node.toNat = s.nodeNumber →
    (s.tally.transmitter = .silent →
      exec (.frameEnd b fe ol) s = .next (s.withTally
        { s.tally with lineIdle := true, ownOnLine := none, goodReceived := s.tally.goodReceived + 1,
                       ownNumber := s.tally.ownNumber + 1 })) ∧
    (s.tally.transmitter ≠ .silent →
      ∃ (t : State) (x : Nat), exec (.frameEnd b fe ol) s = .next t ∧
        x = (if s.peers.mode = .shared then min s.dose.debt s.peers.lastSharedDebt.toNat else 0) ∧
        t.tally = { s.tally with
          lineIdle := true, ownOnLine := none, goodReceived := s.tally.goodReceived + 1, ownNumber := s.tally.ownNumber + 1,
          transmitter := .silent, pending := none, owed := .none, attempt := 0 } ∧
        t.peers = { s.peers with mode := .solo .duplicate, switchPending := false } ∧
        t.dose = { s.dose with debt := s.dose.debt - x, surrendered := s.dose.surrendered + BitVec.ofNat 64 x } ∧
        t.isTrue .duplicateNumber = true ∧ t.cfg = s.cfg ∧ t.pulse = s.pulse ∧ t.sensor = s.sensor ∧
        t.conv = s.conv ∧ t.filter = s.filter ∧ t.port = s.port)

/-- PEER_EXPIRY at the expiry time of a LIVE entry (R79, R81, R86, R104, R105): the entry is EXPIRED and PEER LOST is raised with
its flag; a SHARED node adopts its share of the last debt of a SHARED peer, the overflow above the ceiling released, and with
no LIVE entry left then goes to SOLO(ALONE) and surrenders. -/
def Obligations.PeersExpire : Prop :=
  ∀ (s : State) (n : Nat) (e : Entry) (f : LiveFields) (rest : Nat) (adopted : DoseAccounting), 1 ≤ n → n ≤ 16 →
    s.peers.entries.length = 16 → e = s.peers.entry n → e.status = .live f →
    4 * f.interval ≤ (s.clock - e.lastHeard).toNat → rest = (s.peers.setEntry n Entry.absent).sharedCapacity →
    adopted = (if f.shared then
        s.dose.adopting (s.cfg.ceiling * s.cfg.strokeMass) .expiry n f.debt.toNat s.advertised rest
      else s.dose) →
    ∃ t, exec (.peerExpiry n) s = .next t ∧ t.peers.entry n = { e with status := .expired } ∧
      (∀ m, 1 ≤ m → m ≠ n → t.peers.entry m = s.peers.entry m) ∧ t.isLatched .peerLost = true ∧
      (∀ i, s.store.current = some i → ∃ j, t.store.current = some j ∧ j.hasFlag .peerLost = true) ∧
      t.cfg = s.cfg ∧ t.pulse = s.pulse ∧ t.sensor = s.sensor ∧ t.conv = s.conv ∧ t.tally = s.tally ∧
      t.filter = s.filter ∧ t.port = s.port ∧
      (s.peers.mode ≠ .shared → t.dose = s.dose ∧ t.pump = s.pump ∧ t.peers.mode = s.peers.mode) ∧
      (s.peers.mode = .shared → (∃ m, 1 ≤ m ∧ m ≤ 16 ∧ m ≠ n ∧ (s.peers.entry m).isLive = true) →
        t.peers.mode = .shared ∧ t.dose = adopted) ∧
      (s.peers.mode = .shared → (∀ m, 1 ≤ m → m ≤ 16 → m ≠ n → (s.peers.entry m).isLive = false) →
        t.peers.mode = .solo .alone ∧ t.isTrue .alone = true ∧ t.dose = adopted.surrendering s.peers.lastSharedDebt)

/-- UNHEARD (R85, R87, R109): with a LIVE SHARED peer and eight tally intervals since the last listing, a SHARED node goes to
SOLO(UNHEARD) and surrenders the smaller of its debt and the last SHARED-frame debt it sent. -/
def Obligations.UnheardNodesGoSoloAndSurrender : Prop :=
  ∀ (s : State) (t0 : Time) (x : Nat), s.peers.mode = .shared → 0 < s.peers.liveSharedCount →
    s.peers.lastListed = some t0 → 8 * s.cfg.tallyInterval ≤ (s.clock - t0).toNat →
    x = min s.dose.debt s.peers.lastSharedDebt.toNat →
    ∃ t, exec .unheard s = .next t ∧ t.peers = { s.peers with mode := .solo .unheard } ∧ t.isTrue .unheard = true ∧
      (s.isTrue .unheard = false → t.isLatched .unheard = true) ∧
      t.dose = { s.dose with debt := s.dose.debt - x, surrendered := s.dose.surrendered + BitVec.ofNat 64 x } ∧
      t.cfg = s.cfg ∧ t.pulse = s.pulse ∧ t.sensor = s.sensor ∧ t.conv = s.conv ∧ t.tally = s.tally ∧
      t.filter = s.filter ∧ t.port = s.port

/-! ## The pump -/

/-- STROKE_START and SPACING_RUNS_OUT start a stroke exactly where the conditions of R132 to R134 hold, and RECOVER_END and
HISTORY_ENTRY_LEAVES test them afresh; FILL_END and DRIVE_END move the phase on (R124). The fill, drive and bleed outputs
follow the phase and the kind of the stroke in flight (R117; that they are views of the stroke is log entry 24). The test
at the end of a command is log entry 7. -/
def Obligations.StrokesStartAndMoveThroughTheirPhases : Prop :=
  ∀ s : State,
    (s.pump.stroke = none → s.fillOutput = false ∧ s.driveOutput = false ∧ s.bleedOutput = false) ∧
    (∀ k, s.pump.stroke = some k →
      (s.fillOutput = true ↔ k.phase = .fill) ∧ (s.driveOutput = true ↔ k.phase = .drive) ∧
        (s.bleedOutput = true ↔ k.prime = true)) ∧
    (s.mayStart = true ↔
      s.pump.stroke = none ∧ s.peers.mode.isActive = true ∧
        ((s.pump.condition = .available ∧ s.filter.throttled = false ∧ s.cfg.low * s.cfg.strokeMass ≤ s.dose.debt) ∨
          (s.pump.condition = .priming ∧ 0 < s.pump.primeRemaining)) ∧
        s.pump.history.length < s.cfg.windowCap ∧
        (∀ u, s.pump.lastStart = some u →
          (if s.pump.condition = .priming ∨ s.pump.behind = true then s.cfg.minSpacing else s.cfg.pacedSpacing) ≤
            (s.clock - u).toNat)) ∧
    (s.mayStart = true →
      exec .strokeStart s = .next (s.withPump (s.pump.begun s.clock)) ∧
        exec .spacingRunsOut s = .next (s.withPump (s.pump.begun s.clock))) ∧
    (s.mayStart = false → exec .strokeStart s = .next s ∧ exec .spacingRunsOut s = .next s) ∧
    (∀ k, s.pump.stroke = some k → k.phase = .fill → s.cfg.fillTime ≤ (s.clock - k.phaseStart).toNat →
      exec .fillEnd s = .next (s.withPump
        { s.pump with stroke := some { k with phase := .drive, phaseStart := s.clock } })) ∧
    (∀ k, s.pump.stroke = some k → k.phase = .drive → s.cfg.driveTime ≤ (s.clock - k.phaseStart).toNat →
      0 < s.cfg.confirmWindow →
      exec .driveEnd s = .next (s.withPump
        { s.pump with
          stroke := some { k with phase := if k.confirmed then .recover else .confirm, phaseStart := s.clock } })) ∧
    (∀ k u, s.pump.stroke = some k → k.phase = .recover → s.cfg.recoverTime ≤ (s.clock - k.phaseStart).toNat →
      u = s.withPump { s.pump with stroke := none } →
      exec .recoverEnd s = .next (if u.mayStart then u.withPump (u.pump.begun s.clock) else u)) ∧
    (∀ h rest u, s.pump.history = h :: rest → s.cfg.windowLength ≤ (s.clock - h).toNat →
      u = s.withPump { s.pump with history := rest } →
      exec .historyEntryLeaves s = .next (if u.mayStart then u.withPump (u.pump.begun s.clock) else u))

/-- CONFIRMATION_PULSE that confirms nothing (R118, R127): with no stroke in flight, in FILL or RECOVER, after the stroke has confirmed,
with a confirm window of 0, or in NONE, it adds 1 to the stray count and does nothing else; in CONFIG the level is only taken,
and a level that is high already is no pulse and changes nothing (log entry 13). -/
def Obligations.StrayPulsesAreOnlyCounted : Prop :=
  ∀ s : State,
    (s.pump.level = true → exec .confirmationPulse s = .next s) ∧
    (s.pump.level = false → s.peers.mode = .config →
      exec .confirmationPulse s = .next (s.withPump { s.pump with level := true })) ∧
    (s.peers.mode ≠ .config → s.pump.level = false →
    (s.pump.stroke = none ∨
      (∃ k, s.pump.stroke = some k ∧ (k.phase = .fill ∨ k.phase = .recover ∨ k.confirmed = true)) ∨
      s.cfg.confirmWindow = 0 ∨ (s.pump.condition = .none ∧ s.pump.stroke = none)) →
    exec .confirmationPulse s = .next (s.withPump { s.pump with level := true, stray := s.pump.stray + 1 }))

/-- A stroke confirms at a CONFIRMATION_PULSE (a rise of its input's level, log entry 13) in DRIVE or CONFIRM, or at DRIVE_END
with a confirm window of 0 (R125, R126, R129): the miss count is cleared; a dosing stroke debits (R110, R148), and BEHIND and
STRAINED are tested at the new debt (R136); a prime stroke counts toward priming, and the last one makes the pump
AVAILABLE. -/
def Obligations.StrokesConfirm : Prop :=
  ∀ (s : State) (k : Stroke) (i : Instr) (next : StrokePhase) (begun : Time) (d : Nat),
    s.peers.mode ≠ .config → s.pump.stroke = some k → k.confirmed = false →
    (i = .confirmationPulse ∧ s.pump.level = false ∧ 0 < s.cfg.confirmWindow ∧ k.phase = .drive ∧ next = .drive ∧
        begun = k.phaseStart ∨
      i = .confirmationPulse ∧ s.pump.level = false ∧ 0 < s.cfg.confirmWindow ∧ k.phase = .confirm ∧ next = .recover ∧
        begun = s.clock ∨
      i = .driveEnd ∧ s.cfg.confirmWindow = 0 ∧ k.phase = .drive ∧
        s.cfg.driveTime ≤ (s.clock - k.phaseStart).toNat ∧ next = .recover ∧ begun = s.clock) →
    d = min s.cfg.strokeMass s.dose.debt →
    ∃ (t : State) (k' : Stroke), exec i s = .next t ∧ t.pump.missCount = 0 ∧ t.pump.missed = s.pump.missed ∧
      t.pump.started = s.pump.started ∧ t.pump.history = s.pump.history ∧ t.pump.stray = s.pump.stray ∧
      t.pump.stroke = some k' ∧ k'.confirmed = true ∧ k'.phase = next ∧ k'.phaseStart = begun ∧ k'.prime = k.prime ∧
      k'.start = k.start ∧ WatermarksTested s t ∧
      t.cfg = s.cfg ∧ t.pulse = s.pulse ∧ t.sensor = s.sensor ∧ t.conv = s.conv ∧ t.tally = s.tally ∧
      t.peers = s.peers ∧ t.port = s.port ∧
      (k.prime = false →
        t.pump.confirmed = s.pump.confirmed + 1 ∧ t.pump.primed = s.pump.primed ∧
        t.pump.condition = s.pump.condition ∧ t.pump.primeRemaining = s.pump.primeRemaining ∧
        t.dose = { s.dose with
          debt := s.dose.debt - d, debited := s.dose.debited + BitVec.ofNat 64 d,
          excess := s.dose.excess + BitVec.ofNat 64 (s.cfg.strokeMass - d),
          delivered := s.dose.delivered + BitVec.ofNat 64 s.cfg.strokeMass } ∧
        t.filter = { s.filter with delivered := s.filter.delivered + BitVec.ofNat 64 s.cfg.strokeMass } ∧
        (∀ j, s.store.current = some j → ∃ j', t.store.current = some j' ∧ j'.strokes = j.strokes + 1 ∧
          j'.delivered = j.delivered + BitVec.ofNat 64 s.cfg.strokeMass)) ∧
      (k.prime = true → t.dose = s.dose ∧ t.filter = s.filter ∧ t.pump.primed = s.pump.primed + 1 ∧
        t.pump.confirmed = s.pump.confirmed ∧
        (k.counts = true → s.pump.condition = .priming →
          t.pump.primeRemaining = s.pump.primeRemaining - 1 ∧
          t.pump.condition = if s.pump.primeRemaining ≤ 1 then .available else .priming) ∧
        (k.counts = false ∨ s.pump.condition ≠ .priming →
          t.pump.primeRemaining = s.pump.primeRemaining ∧ t.pump.condition = s.pump.condition))

/-- CONFIRM_WINDOW_EXPIRY (R125, R130, R107): the stroke misses and RECOVER begins; in PRIMING, or in AVAILABLE at the miss limit,
the pump enters FAULT and the whole debt is released, which clears BEHIND and STRAINED (R136); in HELD the miss count stops at
the limit. -/
def Obligations.MissedStrokesFaultThePump : Prop :=
  ∀ (s : State) (k : Stroke) (faults : Bool), s.pump.stroke = some k → k.phase = .confirm →
    s.cfg.confirmWindow ≤ (s.clock - k.phaseStart).toNat →
    (faults = true ↔ s.pump.condition = .priming ∨
      (s.pump.condition = .available ∧ s.cfg.missLimit ≤ s.pump.missCount + 1)) →
    ∃ (t : State) (k' : Stroke), exec .confirmWindowExpiry s = .next t ∧ t.pump.stroke = some k' ∧
      k'.phase = .recover ∧ k'.phaseStart = s.clock ∧ k'.prime = k.prime ∧ k'.confirmed = k.confirmed ∧
      WatermarksTested s t ∧ t.pump.missed = s.pump.missed + 1 ∧ t.pump.confirmed = s.pump.confirmed ∧ t.pump.started = s.pump.started ∧
      t.cfg = s.cfg ∧ t.pulse = s.pulse ∧ t.sensor = s.sensor ∧ t.conv = s.conv ∧ t.tally = s.tally ∧
      t.peers = s.peers ∧ t.filter = s.filter ∧ t.port = s.port ∧
      (faults = false → t.dose = s.dose ∧ t.pump.condition = s.pump.condition) ∧
      (s.pump.condition = .priming ∨ s.pump.condition = .available →
        t.pump.missCount = s.pump.missCount + 1) ∧
      (s.pump.condition = .held →
        t.pump.missCount = if s.pump.missCount < s.cfg.missLimit then s.pump.missCount + 1 else s.pump.missCount) ∧
      (faults = true → t.pump.condition = .fault ∧ t.advertised = 0 ∧ t.isTrue .pumpFault = true ∧
        t.dose = { s.dose with debt := 0, released := s.dose.released + BitVec.ofNat 64 s.dose.debt } ∧
        (0 < s.dose.debt → t.isLatched .debtReleased = true))

/-- HOLD, RESUME and PUMP_RESET taken (R120 to R122): HOLD withholds the pump and releases the whole debt, which clears BEHIND
and STRAINED (R136); the other two send it back to PRIMING with the full prime count and no miss, where the start conditions
are tested at once. The test within the command is log entry 7. -/
def Obligations.PumpCommandsMoveTheCondition : Prop :=
  ∀ s : State, s.peers.mode ≠ .config →
    (s.pump.condition = .priming ∨ s.pump.condition = .available ∨ s.pump.condition = .fault →
      ∃ t, exec .hold s = .next t ∧ t.port = s.port.recorded s.clock 2 .done 0 ∧ t.pump.condition = .held ∧
        t.advertised = 0 ∧ t.isTrue .pumpFault = false ∧ WatermarksTested s t ∧
        t.pump.missCount = s.pump.missCount ∧
        t.pump.primeRemaining = s.pump.primeRemaining ∧ t.pump.history = s.pump.history ∧
        t.pump.stroke = s.pump.stroke.map
          (fun k => if s.pump.condition = .priming then { k with counts := false } else k) ∧
        t.dose = { s.dose with debt := 0, released := s.dose.released + BitVec.ofNat 64 s.dose.debt } ∧
        (s.dose.debt = 0 → t.isLatched .debtReleased = s.isLatched .debtReleased) ∧
        (0 < s.dose.debt → t.isLatched .debtReleased = true) ∧
        t.cfg = s.cfg ∧ t.pulse = s.pulse ∧ t.sensor = s.sensor ∧ t.conv = s.conv ∧ t.tally = s.tally ∧
        t.peers = s.peers ∧ t.filter = s.filter) ∧
    (∀ (i : Instr) (code : Byte),
      (i = .resume ∧ code = 3 ∧ s.pump.condition = .held ∨ i = .pumpReset ∧ code = 4 ∧ s.pump.condition = .fault) →
      ∃ (t : State) (p : PumpSequencer), exec i s = .next t ∧ t.port = s.port.recorded s.clock code .done 0 ∧
        p = { s.pump with condition := .priming, primeRemaining := s.cfg.primeCount, missCount := 0 } ∧
        (t.pump = p ∨ t.pump = p.begun s.clock) ∧
        (t.pump = p.begun s.clock ↔ s.pump.stroke = none ∧ s.peers.mode.isActive = true ∧ 0 < s.cfg.primeCount ∧
          s.pump.history.length < s.cfg.windowCap ∧
          (∀ u, s.pump.lastStart = some u → s.cfg.minSpacing ≤ (s.clock - u).toNat)) ∧
        t.isTrue .pumpFault = false ∧ t.cfg = s.cfg ∧ t.pulse = s.pulse ∧ t.sensor = s.sensor ∧ t.conv = s.conv ∧
        t.tally = s.tally ∧ t.peers = s.peers ∧ t.dose = s.dose ∧ t.filter = s.filter)

/-! ## The filter and the intervals -/

/-- PERIOD_TIMER_EXPIRY and LOW_DWELL_EXPIRY (R147, R150 to R156): below Vmin the period is carried; otherwise the sample is
formed, the accumulators cleared, the average moved by the arithmetic shift, and THROTTLED and the low-dwell timer tested. -/
def Obligations.PeriodsAreCarriedOrSampled : Prop :=
  (∀ (s : State) (t0 : Time), s.filter.periodStart = some t0 →
    s.cfg.filterPeriod * 1000 ≤ (s.clock - t0).toNat →
    (s.filter.volume.toNat < s.cfg.vmin * 1000000 →
      exec .periodTimerExpiry s = .next (s.withFilter
        { s.filter with
          periodStart := some (t0 + BitVec.ofNat 64 (s.cfg.filterPeriod * 1000)),
          carriedPeriods := s.filter.carriedPeriods + 1,
          consecutiveCarried := min 65535 (s.filter.consecutiveCarried + 1) })) ∧
    (s.cfg.vmin * 1000000 ≤ s.filter.volume.toNat →
      ∃ (t : State) (raw a : Nat), exec .periodTimerExpiry s = .next t ∧
        raw = s.filter.delivered.toNat * 10000000 / s.filter.volume.toNat ∧
        (a : Int) = max 0 ((s.filter.average : Int) +
          ((min raw 4000 : Nat) * 256 - (s.filter.average : Int)) / 2 ^ s.cfg.filterShift) ∧
        t.filter.periodStart = some (t0 + BitVec.ofNat 64 (s.cfg.filterPeriod * 1000)) ∧ t.filter.volume = 0 ∧
        t.filter.delivered = 0 ∧ t.filter.average = a ∧ t.filter.lastSample = min raw 4000 ∧
        t.filter.lastClamped = decide (4000 < raw) ∧ t.filter.sampledPeriods = s.filter.sampledPeriods + 1 ∧
        t.filter.carriedPeriods = s.filter.carriedPeriods ∧ t.filter.consecutiveCarried = 0 ∧
        (s.filter.throttled = false → t.filter.throttled = decide (s.cfg.upperLimit * 256 ≤ a)) ∧
        (s.filter.throttled = true → t.filter.throttled =
          decide ((s.cfg.upperLimit - s.cfg.throttleHysteresis) * 256 ≤ a)) ∧
        (a < s.cfg.lowerLimit * 256 →
          t.filter.dwell = if s.filter.dwell = .stopped then .running s.clock else s.filter.dwell) ∧
        (s.cfg.lowerLimit * 256 ≤ a → t.filter.dwell = .stopped ∧ t.isTrue .concLow = false) ∧
        t.cfg = s.cfg ∧ t.pulse = s.pulse ∧ t.sensor = s.sensor ∧ t.conv = s.conv ∧ t.tally = s.tally ∧
        t.peers = s.peers ∧ t.dose = s.dose ∧ t.port = s.port)) ∧
  (∀ (s : State) (t0 : Time), s.filter.dwell = .running t0 → s.cfg.lowDwell * 60000 ≤ (s.clock - t0).toNat →
    ∃ t, exec .lowDwellExpiry s = .next t ∧ t.isTrue .concLow = true ∧
      (s.isTrue .concLow = false → t.isLatched .concLow = true) ∧
      t = (s.withFilter { s.filter with dwell := .expired, concLow := true }).withAlarm t.alarm)

/-- INTERVAL_TIMER_EXPIRY and MARK (R161, R162, R164, R165, R167): the interval closes into one record with the next sequence,
the oldest of 128 is removed, and a new interval opens at the same instant; MARK changes nothing but this and the port's
record. The volumes of the record are differences of the figures modulo 2^64 (log entry 17). While an interval is open its
figures rise with the counters of the same names (R113, R130, R163), its least LIVE count takes each new count that is
lower, a flag stays set (R163), and a flag is set where its condition is raised or rises (R11, R73, R79, R101, R107, R138,
R154) or the mode becomes SOLO or PARKED (R91), and nowhere else but for the flags of the values given, which a cycle end
sets (R30). -/
def Obligations.IntervalsCloseIntoTheRing : Prop :=
  (∀ (s : State) (i : CurrentInterval) (record : CloseCause → IntervalRecord) (opened : CurrentInterval),
    s.store.current = some i →
    (∀ cause, record cause =
      { sequence := s.store.nextSequence, cause := cause, duration := (s.clock - i.openTime).toNat / 1000,
        cycles := i.cycles, actual := s.conv.actual / 1000000 - i.startActual,
        base := s.conv.base / 1000000 - i.startBase, header := s.store.header / 1000000 - i.startHeader,
        delivered := i.delivered, charged := i.charged, adopted := i.adopted, released := i.released,
        surrendered := i.surrendered, waived := i.waived, undosed := i.undosed, strokes := i.strokes,
        missed := i.missed, averagePf := i.sumPf.toNat / i.cycles.toNat, averageTf := i.sumTf.toNat / i.cycles.toNat,
        leastLive := i.leastLive, mode := s.peers.mode, flags := i.flags }) →
    opened =
      { openTime := s.clock, startActual := s.conv.actual / 1000000, startBase := s.conv.base / 1000000,
        startHeader := s.store.header / 1000000, cycles := 0, sumPf := 0, sumTf := 0, delivered := 0, charged := 0,
        adopted := 0, released := 0, surrendered := 0, waived := 0, undosed := 0, strokes := 0, missed := 0,
        leastLive := s.peers.liveCount,
        flags := (if s.peers.mode.isSolo then Flag.solo.bit else 0) |||
          (if s.peers.mode = .parked then Flag.parked.bit else 0) |||
          (if s.isTrue .pumpFault then Flag.pumpFault.bit else 0) |||
          (if s.isTrue .pumpStrained then Flag.pumpStrained.bit else 0) |||
          (if s.filter.throttled then Flag.throttled.bit else 0) } →
    (∀ t0, s.store.timerStart = some t0 → s.cfg.intervalLength * 60000 ≤ (s.clock - t0).toNat →
      exec .intervalTimerExpiry s = .next (s.withStore
        { s.store with
          timerStart := some (t0 + BitVec.ofNat 64 (s.cfg.intervalLength * 60000)), current := some opened,
          ring := (if s.store.ring.length < 128 then s.store.ring else s.store.ring.tail) ++ [record .timer],
          nextSequence := s.store.nextSequence + 1 })) ∧
    (s.peers.mode ≠ .config →
      exec .mark s = .next ((s.withStore
        { s.store with
          current := some opened,
          ring := (if s.store.ring.length < 128 then s.store.ring else s.store.ring.tail) ++ [record .mark],
          nextSequence := s.store.nextSequence + 1 }).withPort (s.port.recorded s.clock 7 .done 0)))) ∧
  (∀ (c : Instr) (s t : State) (i : CurrentInterval), (∀ n a x y z, c ≠ .coldReset n a x y z) → c ≠ .start → c ≠ .mark →
    c ≠ .intervalTimerExpiry → s.peers.entries.length = 16 → exec c s = .next t → s.store.current = some i →
    ∃ j, t.store.current = some j ∧ j.openTime = i.openTime ∧ j.startActual = i.startActual ∧
      j.startBase = i.startBase ∧ j.startHeader = i.startHeader ∧
      j.cycles = i.cycles + (t.pulse.nextNumber - s.pulse.nextNumber) ∧
      j.charged = i.charged + (t.dose.charged - s.dose.charged) ∧
      j.adopted = i.adopted + (t.dose.adopted - s.dose.adopted) ∧
      j.released = i.released + (t.dose.released - s.dose.released) ∧
      j.surrendered = i.surrendered + (t.dose.surrendered - s.dose.surrendered) ∧
      j.waived = i.waived + (t.dose.waived - s.dose.waived) ∧
      j.undosed = i.undosed + (t.dose.undosed - s.dose.undosed) ∧
      j.delivered = i.delivered + (t.dose.delivered - s.dose.delivered) ∧
      j.strokes = i.strokes + (t.pump.confirmed - s.pump.confirmed) ∧
      j.missed = i.missed + (t.pump.missed - s.pump.missed) ∧
      j.leastLive =
        (if t.peers.liveCount = s.peers.liveCount then i.leastLive else min i.leastLive t.peers.liveCount) ∧
      (∀ x, i.hasFlag x = true → j.hasFlag x = true) ∧
      (∀ x k, x.condition = some k →
        (i.hasFlag x = false → j.hasFlag x = true → t.isLatched k = true) ∧
        (s.isLatched k = false → t.isLatched k = true → j.hasFlag x = true) ∧
        (s.isTrue k = false → t.isTrue k = true → j.hasFlag x = true)) ∧
      (∀ x, x.condition = none → x ≠ .solo → x ≠ .parked → c ≠ .cycleTimerExpiry → j.hasFlag x = i.hasFlag x) ∧
      (t.dose.released ≠ s.dose.released → j.hasFlag .debtReleased = true) ∧
      (s.peers.mode.isSolo = false → t.peers.mode.isSolo = true → j.hasFlag .solo = true) ∧
      (s.peers.mode ≠ .parked → t.peers.mode = .parked → j.hasFlag .parked = true) ∧
      (i.hasFlag .solo = false → j.hasFlag .solo = true → t.peers.mode.isSolo = true) ∧
      (i.hasFlag .parked = false → j.hasFlag .parked = true → t.peers.mode = .parked))

/-! ## The Supervisory Port -/

/-- The selectors latch their snapshots and replace the selector in force (R176, R198): the lengths of the snapshots and the
items that open and close them. RECORD answers the record with its sequence, and NEXT_RECORD the record at its cursor, or
the oldest with the count of those overwritten, with the cursor moved (R168, R169), whole from offset 18; a ring that is
empty answers NOT YET. A read returns the snapshot from its first byte and 255 beyond its end (R177), at the bus address 44
plus the offset, in either direction (R173). -/
def Obligations.SelectorsLatchTheirSnapshots : Prop :=
  ∀ s : State,
    (∃ b, exec .status s = .next (s.withPort { s.port with selector := .status, snapshot := b }) ∧ b.length = 337 ∧
      fieldAt b 0 4 = s.clock.toNat % 4294967296 ∧ fieldAt b 4 1 = s.nodeNumber ∧
      fieldAt b 19 4 = s.port.protocolErrors.toNat ∧ fieldAt b 140 1 = s.peers.mode.code ∧
      fieldAt b 153 1 = s.pump.condition.code ∧ fieldAt b 254 4 = s.filter.average % 4294967296 ∧
      fieldAt b 328 2 = s.alarm.conditions.toNat ∧ fieldAt b 330 2 = s.alarm.latches.toNat ∧
      fieldAt b 332 2 = s.alarm.mask1.toNat ∧ fieldAt b 334 2 = s.alarm.mask2.toNat) ∧
    (∃ b, exec .totals s = .next (s.withPort { s.port with selector := .totals, snapshot := b }) ∧ b.length = 216 ∧
      fieldAt b 0 4 = s.clock.toNat % 4294967296 ∧ fieldAt b 4 4 = s.dose.debt % 4294967296 ∧
      fieldAt b 12 8 = s.dose.charged.toNat ∧ fieldAt b 20 8 = s.dose.adopted.toNat ∧
      fieldAt b 28 8 = s.dose.debited.toNat ∧ fieldAt b 36 8 = s.dose.released.toNat ∧
      fieldAt b 44 8 = s.dose.surrendered.toNat ∧ fieldAt b 68 8 = s.dose.delivered.toNat ∧
      fieldAt b 76 8 = s.dose.excess.toNat) ∧
    (∀ n : Byte, 1 ≤ n.toNat → n.toNat ≤ 16 →
      ∃ b, exec (.peer n) s = .next (s.withPort { s.port with selector := .peer n, snapshot := b }) ∧ b.length = 54 ∧
        fieldAt b 4 1 = n.toNat ∧
        fieldAt b 5 1 = if n.toNat = s.nodeNumber then 4 else (s.peers.entry n.toNat).status.code) ∧
    (∀ (q : BitVec 32) (d : Nat), d = (s.store.nextSequence - 1 - q).toNat → RingConsecutive s.store →
      ∃ b, exec (.record q) s = .next (s.withPort { s.port with selector := .record q, snapshot := b }) ∧
        b.length = 128 ∧ fieldAt b 0 4 = s.clock.toNat % 4294967296 ∧ fieldAt b 5 1 = s.store.ring.length ∧
        (s.store.ring ≠ [] →
          fieldAt b 6 4 = (s.store.nextSequence - BitVec.ofNat 32 s.store.ring.length).toNat ∧
          fieldAt b 10 4 = (s.store.nextSequence - 1).toNat) ∧
        (d < s.store.ring.length → fieldAt b 4 1 = 0 ∧ fieldAt b 14 4 = 0 ∧
          ∃ r ∈ s.store.ring, r.sequence = q ∧ b.drop 18 = intervalRecordBytes r) ∧
        (s.store.ring.length ≤ d → fieldAt b 4 1 = (if 2147483648 ≤ d then 1 else 2) ∧
          b.drop 14 = List.replicate 114 0)) ∧
    (∀ (d : Nat) (oldest : BitVec 32), d = (s.store.nextSequence - 1 - s.store.cursor).toNat → RingConsecutive s.store →
      oldest = s.store.nextSequence - BitVec.ofNat 32 s.store.ring.length →
      ∃ (b : List Byte) (u : BitVec 32), exec .nextRecord s = .next ((s.withPort
          { s.port with selector := .nextRecord, snapshot := b }).withStore { s.store with cursor := u }) ∧
        b.length = 128 ∧ fieldAt b 0 4 = s.clock.toNat % 4294967296 ∧ fieldAt b 5 1 = s.store.ring.length ∧
        (s.store.ring ≠ [] → fieldAt b 6 4 = oldest.toNat ∧ fieldAt b 10 4 = (s.store.nextSequence - 1).toNat) ∧
        (d < s.store.ring.length → fieldAt b 4 1 = 0 ∧ fieldAt b 14 4 = 0 ∧ u = s.store.cursor + 1 ∧
          ∃ r ∈ s.store.ring, r.sequence = s.store.cursor ∧ b.drop 18 = intervalRecordBytes r) ∧
        (s.store.ring.length ≤ d → 2147483648 ≤ d → fieldAt b 4 1 = 1 ∧ u = s.store.cursor ∧
          b.drop 14 = List.replicate 114 0) ∧
        (s.store.ring ≠ [] → s.store.ring.length ≤ d → d < 2147483648 → fieldAt b 4 1 = 0 ∧
          fieldAt b 14 4 = (oldest - s.store.cursor).toNat ∧ u = oldest + 1 ∧
          ∃ r ∈ s.store.ring, r.sequence = oldest ∧ b.drop 18 = intervalRecordBytes r)) ∧
    (∀ o : BitVec 16, o.toNat < 151 →
      exec (.config o) s = .next (s.withPort
        { s.port with selector := .config o,
                      snapshot := s.port.block.drop o.toNat ++ bigEndian 4 s.clock.toNat })) ∧
    (∃ b, exec .commandSelector s = .next (s.withPort { s.port with selector := .command, snapshot := b }) ∧
      b.length = 16 ∧ fieldAt b 0 4 = s.clock.toNat % 4294967296 ∧ fieldAt b 5 1 = s.port.last.code.toNat ∧
      fieldAt b 12 4 = s.port.last.count.toNat) ∧
    (∀ k : Nat, s.portRead k = s.port.snapshot.take k ++ List.replicate (k - s.port.snapshot.length) 255) ∧
    (∀ a : Byte, s.acknowledges a = true ↔
      a.toNat = 2 * (44 + s.addressOffset.toNat) ∨ a.toNat = 2 * (44 + s.addressOffset.toNat) + 1)

/-- CONFIG_WRITE (R174, R178, R185) stores the bytes within the block and records itself, except in LOCKED, where the first byte
is not acknowledged; UNRECOGNISED_SELECTOR, TRANSACTION_ABANDONED, WRITE_ENDED_PART_WAY and a parameter out of range
only count a protocol error (R174, R175). That the rows are whole transactions is log entry 10. -/
def Obligations.WritesAndProtocolErrors : Prop :=
  ∀ (s : State) (o : BitVec 16) (data : List Byte) (p : SupervisoryPort) (last : CommandResult → LastCommand),
    p = { s.port with selector := .config o, snapshot := s.port.block.drop o.toNat ++ bigEndian 4 s.clock.toNat } →
    (∀ r, last r = { kind := .configWrite, code := 0, result := r, index := 0, time := s.clock,
                     count := s.port.last.count + 1 }) →
    (o.toNat < 151 → data ≠ [] → s.port.blockState = .locked → ∀ stopped,
      exec (.configWrite o data stopped) s = .next (s.withPort
        { p with protocolErrors := p.protocolErrors + 1, last := last .refusedState })) ∧
    (o.toNat < 151 → data ≠ [] → s.port.blockState ≠ .locked → s.port.block.length = 151 →
      ∃ block, block.length = 151 ∧
        (∀ j, j < 151 → block.getD j 0 =
          if o.toNat ≤ j ∧ j < o.toNat + data.length then data.getD (j - o.toNat) 0 else s.port.block.getD j 0) ∧
        ∀ stopped, exec (.configWrite o data stopped) s = .next (s.withPort
          { p with
            block := block, blockState := .written,
            protocolErrors := if 151 < o.toNat + data.length then p.protocolErrors + 1 else p.protocolErrors,
            last := if stopped then last .done else p.last })) ∧
    (∀ i, (i = .unrecognisedSelector ∨ i = .transactionAbandoned ∨ i = .writeEndedPartWay ∨
        (∃ n : Byte, i = .peer n ∧ (n.toNat = 0 ∨ 16 < n.toNat)) ∨
        (∃ w : BitVec 16, i = .config w ∧ 151 ≤ w.toNat) ∨
        (∃ (w : BitVec 16) (d : List Byte) (b : Bool), i = .configWrite w d b ∧ 151 ≤ w.toNat)) →
      exec i s = .next (s.withPort { s.port with protocolErrors := s.port.protocolErrors + 1 }))

/-- LEAVE and JOIN taken (R58, R89, R90): LEAVE parks the node, releases the whole debt and then makes the LEAVE frame due, so
that the frame carries the released debt; JOIN returns to SOLO and keeps the table. -/
def Obligations.LeaveParksAndJoinReturns : Prop :=
  ∀ s : State,
    (s.peers.mode.isActive = true →
      ∃ t, exec .leave s = .next t ∧ t.port = s.port.recorded s.clock 5 .done 0 ∧
        t.peers = { s.peers with mode := .parked, switchPending := false } ∧
        t.dose = { s.dose with debt := 0, released := s.dose.released + BitVec.ofNat 64 s.dose.debt } ∧
        (0 < s.dose.debt → t.isLatched .debtReleased = true) ∧ t.isTrue .unheard = false ∧ t.isTrue .alone = false ∧
        t.pump.condition = s.pump.condition ∧ t.pump.stroke = s.pump.stroke ∧
        (s.tally.transmitter = .sending → t.tally = { s.tally with owed := .leave }) ∧
        (s.tally.transmitter = .silent → t.tally = s.tally) ∧
        (s.tally.transmitter ≠ .sending → s.tally.transmitter ≠ .silent →
          t.tally.sequence = s.tally.sequence + 1 ∧
          t.tally.pending = some
            { frame := .leave { node := BitVec.ofNat 8 s.nodeNumber, sequence := s.tally.sequence,
                                released := t.dose.released.setWidth 32 },
              builtShared := false } ∧
          t.tally.abandoned =
            if s.tally.transmitter = .empty then s.tally.abandoned else s.tally.abandoned + 1) ∧
        t.cfg = s.cfg ∧ t.pulse = s.pulse ∧ t.sensor = s.sensor ∧ t.conv = s.conv ∧ t.filter = s.filter) ∧
    (s.peers.mode = .parked →
      ∃ t, exec .join s = .next t ∧ t.port = s.port.recorded s.clock 6 .done 0 ∧
        t.peers = { s.peers with
          mode := .solo (if s.tally.transmitter = .silent then .duplicate else .starting) } ∧
        t.pump.condition = s.pump.condition ∧ t.cfg = s.cfg ∧ t.pulse = s.pulse ∧ t.sensor = s.sensor ∧
        t.conv = s.conv ∧ t.tally = s.tally ∧ t.dose = s.dose ∧ t.filter = s.filter)

/-- CLEAR_LATCHES (R191) keeps exactly the latches of the level conditions that are true; a refused command changes nothing but
the record (R184), and an UNKNOWN code is recorded and acknowledged (R183, R185). An alarm line is asserted exactly while one
of the sixteen conditions has its latch set and its mark set in the line's mask (R192; that the lines are views is log
entry 24). The snapshot after an UNKNOWN code is log entry 9, and that a command row includes its selector log entry 10. -/
def Obligations.LatchesAreClearedAndRefusalsChangeNothing : Prop :=
  ∀ s : State,
    (s.alarm1Asserted = true ↔ ∃ c : Cond, s.isLatched c = true ∧ s.alarm.mask1.getLsbD c.index = true) ∧
    (s.alarm2Asserted = true ↔ ∃ c : Cond, s.isLatched c = true ∧ s.alarm.mask2.getLsbD c.index = true) ∧
    (∃ t, exec .clearLatches s = .next t ∧
      (∀ c : Cond, t.isLatched c = (s.isLatched c && s.isTrue c && levelConditions.getLsbD c.index)) ∧
      t = (s.withAlarm { s.alarm with latches := t.alarm.latches }).withPort
        (s.port.recorded s.clock 8 .done 0)) ∧
    (∀ (i : Instr) (code : Byte),
      (i = .hold ∧ code = 2 ∧ (s.peers.mode = .config ∨ s.pump.condition = .unset ∨ s.pump.condition = .none ∨
          s.pump.condition = .held) ∨
        i = .resume ∧ code = 3 ∧ (s.peers.mode = .config ∨ s.pump.condition ≠ .held) ∨
        i = .pumpReset ∧ code = 4 ∧ (s.peers.mode = .config ∨ s.pump.condition ≠ .fault) ∨
        i = .leave ∧ code = 5 ∧ s.peers.mode.isActive = false ∨
        i = .join ∧ code = 6 ∧ s.peers.mode ≠ .parked ∨
        i = .mark ∧ code = 7 ∧ s.peers.mode = .config) →
      exec i s = .next (s.withPort (s.port.recorded s.clock code .refusedState 0))) ∧
    (∀ (code : Byte), (code = 0 ∨ 8 < code.toNat) →
      ∃ b, exec (.unknown code) s = .next (s.withPort
        { s.port with
          selector := .command, snapshot := b,
          last := { kind := .command, code := code, result := .unknown, index := 0, time := s.clock,
                    count := s.port.last.count + 1 } }) ∧
        b.length = 16 ∧ fieldAt b 12 4 = s.port.last.count.toNat)
end

