-- ==== Sys2Proof/Laws/State.lean ====
section
/-! SUPPORT. One lemma per field per block update: an update writes its own block and leaves every other. -/

namespace Sys2Proof.Machine

@[simp] theorem State.withClock_clock (s : State) (x : Time) : (s.withClock x).clock = x := rfl
@[simp] theorem State.withClock_cfg (s : State) (x : Time) : (s.withClock x).cfg = s.cfg := rfl
@[simp] theorem State.withClock_pulse (s : State) (x : Time) : (s.withClock x).pulse = s.pulse := rfl
@[simp] theorem State.withClock_sensor (s : State) (x : Time) : (s.withClock x).sensor = s.sensor := rfl
@[simp] theorem State.withClock_conv (s : State) (x : Time) : (s.withClock x).conv = s.conv := rfl
@[simp] theorem State.withClock_tally (s : State) (x : Time) : (s.withClock x).tally = s.tally := rfl
@[simp] theorem State.withClock_peers (s : State) (x : Time) : (s.withClock x).peers = s.peers := rfl
@[simp] theorem State.withClock_dose (s : State) (x : Time) : (s.withClock x).dose = s.dose := rfl
@[simp] theorem State.withClock_pump (s : State) (x : Time) : (s.withClock x).pump = s.pump := rfl
@[simp] theorem State.withClock_filter (s : State) (x : Time) : (s.withClock x).filter = s.filter := rfl
@[simp] theorem State.withClock_store (s : State) (x : Time) : (s.withClock x).store = s.store := rfl
@[simp] theorem State.withClock_port (s : State) (x : Time) : (s.withClock x).port = s.port := rfl
@[simp] theorem State.withClock_alarm (s : State) (x : Time) : (s.withClock x).alarm = s.alarm := rfl
@[simp] theorem State.withClock_pending (s : State) (x : Time) : (s.withClock x).pending = s.pending := rfl
@[simp] theorem State.withClock_choices (s : State) (x : Time) : (s.withClock x).choices = s.choices := rfl
@[simp] theorem State.withClock_nodeStraps (s : State) (x : Time) : (s.withClock x).nodeStraps = s.nodeStraps := rfl
@[simp] theorem State.withClock_addressOffset (s : State) (x : Time) : (s.withClock x).addressOffset = s.addressOffset := rfl
@[simp] theorem State.withClock_withClock (s : State) (x y : Time) : (s.withClock x).withClock y = s.withClock y := rfl
@[simp] theorem State.withClock_self (s : State) : s.withClock s.clock = s := rfl

@[simp] theorem State.withCfg_clock (s : State) (x : Cfg) : (s.withCfg x).clock = s.clock := rfl
@[simp] theorem State.withCfg_cfg (s : State) (x : Cfg) : (s.withCfg x).cfg = x := rfl
@[simp] theorem State.withCfg_pulse (s : State) (x : Cfg) : (s.withCfg x).pulse = s.pulse := rfl
@[simp] theorem State.withCfg_sensor (s : State) (x : Cfg) : (s.withCfg x).sensor = s.sensor := rfl
@[simp] theorem State.withCfg_conv (s : State) (x : Cfg) : (s.withCfg x).conv = s.conv := rfl
@[simp] theorem State.withCfg_tally (s : State) (x : Cfg) : (s.withCfg x).tally = s.tally := rfl
@[simp] theorem State.withCfg_peers (s : State) (x : Cfg) : (s.withCfg x).peers = s.peers := rfl
@[simp] theorem State.withCfg_dose (s : State) (x : Cfg) : (s.withCfg x).dose = s.dose := rfl
@[simp] theorem State.withCfg_pump (s : State) (x : Cfg) : (s.withCfg x).pump = s.pump := rfl
@[simp] theorem State.withCfg_filter (s : State) (x : Cfg) : (s.withCfg x).filter = s.filter := rfl
@[simp] theorem State.withCfg_store (s : State) (x : Cfg) : (s.withCfg x).store = s.store := rfl
@[simp] theorem State.withCfg_port (s : State) (x : Cfg) : (s.withCfg x).port = s.port := rfl
@[simp] theorem State.withCfg_alarm (s : State) (x : Cfg) : (s.withCfg x).alarm = s.alarm := rfl
@[simp] theorem State.withCfg_pending (s : State) (x : Cfg) : (s.withCfg x).pending = s.pending := rfl
@[simp] theorem State.withCfg_choices (s : State) (x : Cfg) : (s.withCfg x).choices = s.choices := rfl
@[simp] theorem State.withCfg_nodeStraps (s : State) (x : Cfg) : (s.withCfg x).nodeStraps = s.nodeStraps := rfl
@[simp] theorem State.withCfg_addressOffset (s : State) (x : Cfg) : (s.withCfg x).addressOffset = s.addressOffset := rfl
@[simp] theorem State.withCfg_withCfg (s : State) (x y : Cfg) : (s.withCfg x).withCfg y = s.withCfg y := rfl
@[simp] theorem State.withCfg_self (s : State) : s.withCfg s.cfg = s := rfl

@[simp] theorem State.withPulse_clock (s : State) (x : PulseCounter) : (s.withPulse x).clock = s.clock := rfl
@[simp] theorem State.withPulse_cfg (s : State) (x : PulseCounter) : (s.withPulse x).cfg = s.cfg := rfl
@[simp] theorem State.withPulse_pulse (s : State) (x : PulseCounter) : (s.withPulse x).pulse = x := rfl
@[simp] theorem State.withPulse_sensor (s : State) (x : PulseCounter) : (s.withPulse x).sensor = s.sensor := rfl
@[simp] theorem State.withPulse_conv (s : State) (x : PulseCounter) : (s.withPulse x).conv = s.conv := rfl
@[simp] theorem State.withPulse_tally (s : State) (x : PulseCounter) : (s.withPulse x).tally = s.tally := rfl
@[simp] theorem State.withPulse_peers (s : State) (x : PulseCounter) : (s.withPulse x).peers = s.peers := rfl
@[simp] theorem State.withPulse_dose (s : State) (x : PulseCounter) : (s.withPulse x).dose = s.dose := rfl
@[simp] theorem State.withPulse_pump (s : State) (x : PulseCounter) : (s.withPulse x).pump = s.pump := rfl
@[simp] theorem State.withPulse_filter (s : State) (x : PulseCounter) : (s.withPulse x).filter = s.filter := rfl
@[simp] theorem State.withPulse_store (s : State) (x : PulseCounter) : (s.withPulse x).store = s.store := rfl
@[simp] theorem State.withPulse_port (s : State) (x : PulseCounter) : (s.withPulse x).port = s.port := rfl
@[simp] theorem State.withPulse_alarm (s : State) (x : PulseCounter) : (s.withPulse x).alarm = s.alarm := rfl
@[simp] theorem State.withPulse_pending (s : State) (x : PulseCounter) : (s.withPulse x).pending = s.pending := rfl
@[simp] theorem State.withPulse_choices (s : State) (x : PulseCounter) : (s.withPulse x).choices = s.choices := rfl
@[simp] theorem State.withPulse_nodeStraps (s : State) (x : PulseCounter) : (s.withPulse x).nodeStraps = s.nodeStraps := rfl
@[simp] theorem State.withPulse_addressOffset (s : State) (x : PulseCounter) : (s.withPulse x).addressOffset = s.addressOffset := rfl
@[simp] theorem State.withPulse_withPulse (s : State) (x y : PulseCounter) : (s.withPulse x).withPulse y = s.withPulse y := rfl
@[simp] theorem State.withPulse_self (s : State) : s.withPulse s.pulse = s := rfl

@[simp] theorem State.withSensor_clock (s : State) (x : SensorBus) : (s.withSensor x).clock = s.clock := rfl
@[simp] theorem State.withSensor_cfg (s : State) (x : SensorBus) : (s.withSensor x).cfg = s.cfg := rfl
@[simp] theorem State.withSensor_pulse (s : State) (x : SensorBus) : (s.withSensor x).pulse = s.pulse := rfl
@[simp] theorem State.withSensor_sensor (s : State) (x : SensorBus) : (s.withSensor x).sensor = x := rfl
@[simp] theorem State.withSensor_conv (s : State) (x : SensorBus) : (s.withSensor x).conv = s.conv := rfl
@[simp] theorem State.withSensor_tally (s : State) (x : SensorBus) : (s.withSensor x).tally = s.tally := rfl
@[simp] theorem State.withSensor_peers (s : State) (x : SensorBus) : (s.withSensor x).peers = s.peers := rfl
@[simp] theorem State.withSensor_dose (s : State) (x : SensorBus) : (s.withSensor x).dose = s.dose := rfl
@[simp] theorem State.withSensor_pump (s : State) (x : SensorBus) : (s.withSensor x).pump = s.pump := rfl
@[simp] theorem State.withSensor_filter (s : State) (x : SensorBus) : (s.withSensor x).filter = s.filter := rfl
@[simp] theorem State.withSensor_store (s : State) (x : SensorBus) : (s.withSensor x).store = s.store := rfl
@[simp] theorem State.withSensor_port (s : State) (x : SensorBus) : (s.withSensor x).port = s.port := rfl
@[simp] theorem State.withSensor_alarm (s : State) (x : SensorBus) : (s.withSensor x).alarm = s.alarm := rfl
@[simp] theorem State.withSensor_pending (s : State) (x : SensorBus) : (s.withSensor x).pending = s.pending := rfl
@[simp] theorem State.withSensor_choices (s : State) (x : SensorBus) : (s.withSensor x).choices = s.choices := rfl
@[simp] theorem State.withSensor_nodeStraps (s : State) (x : SensorBus) : (s.withSensor x).nodeStraps = s.nodeStraps := rfl
@[simp] theorem State.withSensor_addressOffset (s : State) (x : SensorBus) : (s.withSensor x).addressOffset = s.addressOffset := rfl
@[simp] theorem State.withSensor_withSensor (s : State) (x y : SensorBus) : (s.withSensor x).withSensor y = s.withSensor y := rfl
@[simp] theorem State.withSensor_self (s : State) : s.withSensor s.sensor = s := rfl

@[simp] theorem State.withConv_clock (s : State) (x : ConversionUnit) : (s.withConv x).clock = s.clock := rfl
@[simp] theorem State.withConv_cfg (s : State) (x : ConversionUnit) : (s.withConv x).cfg = s.cfg := rfl
@[simp] theorem State.withConv_pulse (s : State) (x : ConversionUnit) : (s.withConv x).pulse = s.pulse := rfl
@[simp] theorem State.withConv_sensor (s : State) (x : ConversionUnit) : (s.withConv x).sensor = s.sensor := rfl
@[simp] theorem State.withConv_conv (s : State) (x : ConversionUnit) : (s.withConv x).conv = x := rfl
@[simp] theorem State.withConv_tally (s : State) (x : ConversionUnit) : (s.withConv x).tally = s.tally := rfl
@[simp] theorem State.withConv_peers (s : State) (x : ConversionUnit) : (s.withConv x).peers = s.peers := rfl
@[simp] theorem State.withConv_dose (s : State) (x : ConversionUnit) : (s.withConv x).dose = s.dose := rfl
@[simp] theorem State.withConv_pump (s : State) (x : ConversionUnit) : (s.withConv x).pump = s.pump := rfl
@[simp] theorem State.withConv_filter (s : State) (x : ConversionUnit) : (s.withConv x).filter = s.filter := rfl
@[simp] theorem State.withConv_store (s : State) (x : ConversionUnit) : (s.withConv x).store = s.store := rfl
@[simp] theorem State.withConv_port (s : State) (x : ConversionUnit) : (s.withConv x).port = s.port := rfl
@[simp] theorem State.withConv_alarm (s : State) (x : ConversionUnit) : (s.withConv x).alarm = s.alarm := rfl
@[simp] theorem State.withConv_pending (s : State) (x : ConversionUnit) : (s.withConv x).pending = s.pending := rfl
@[simp] theorem State.withConv_choices (s : State) (x : ConversionUnit) : (s.withConv x).choices = s.choices := rfl
@[simp] theorem State.withConv_nodeStraps (s : State) (x : ConversionUnit) : (s.withConv x).nodeStraps = s.nodeStraps := rfl
@[simp] theorem State.withConv_addressOffset (s : State) (x : ConversionUnit) : (s.withConv x).addressOffset = s.addressOffset := rfl
@[simp] theorem State.withConv_withConv (s : State) (x y : ConversionUnit) : (s.withConv x).withConv y = s.withConv y := rfl
@[simp] theorem State.withConv_self (s : State) : s.withConv s.conv = s := rfl

@[simp] theorem State.withTally_clock (s : State) (x : TallyLine) : (s.withTally x).clock = s.clock := rfl
@[simp] theorem State.withTally_cfg (s : State) (x : TallyLine) : (s.withTally x).cfg = s.cfg := rfl
@[simp] theorem State.withTally_pulse (s : State) (x : TallyLine) : (s.withTally x).pulse = s.pulse := rfl
@[simp] theorem State.withTally_sensor (s : State) (x : TallyLine) : (s.withTally x).sensor = s.sensor := rfl
@[simp] theorem State.withTally_conv (s : State) (x : TallyLine) : (s.withTally x).conv = s.conv := rfl
@[simp] theorem State.withTally_tally (s : State) (x : TallyLine) : (s.withTally x).tally = x := rfl
@[simp] theorem State.withTally_peers (s : State) (x : TallyLine) : (s.withTally x).peers = s.peers := rfl
@[simp] theorem State.withTally_dose (s : State) (x : TallyLine) : (s.withTally x).dose = s.dose := rfl
@[simp] theorem State.withTally_pump (s : State) (x : TallyLine) : (s.withTally x).pump = s.pump := rfl
@[simp] theorem State.withTally_filter (s : State) (x : TallyLine) : (s.withTally x).filter = s.filter := rfl
@[simp] theorem State.withTally_store (s : State) (x : TallyLine) : (s.withTally x).store = s.store := rfl
@[simp] theorem State.withTally_port (s : State) (x : TallyLine) : (s.withTally x).port = s.port := rfl
@[simp] theorem State.withTally_alarm (s : State) (x : TallyLine) : (s.withTally x).alarm = s.alarm := rfl
@[simp] theorem State.withTally_pending (s : State) (x : TallyLine) : (s.withTally x).pending = s.pending := rfl
@[simp] theorem State.withTally_choices (s : State) (x : TallyLine) : (s.withTally x).choices = s.choices := rfl
@[simp] theorem State.withTally_nodeStraps (s : State) (x : TallyLine) : (s.withTally x).nodeStraps = s.nodeStraps := rfl
@[simp] theorem State.withTally_addressOffset (s : State) (x : TallyLine) : (s.withTally x).addressOffset = s.addressOffset := rfl
@[simp] theorem State.withTally_withTally (s : State) (x y : TallyLine) : (s.withTally x).withTally y = s.withTally y := rfl
@[simp] theorem State.withTally_self (s : State) : s.withTally s.tally = s := rfl

@[simp] theorem State.withPeers_clock (s : State) (x : PeerTable) : (s.withPeers x).clock = s.clock := rfl
@[simp] theorem State.withPeers_cfg (s : State) (x : PeerTable) : (s.withPeers x).cfg = s.cfg := rfl
@[simp] theorem State.withPeers_pulse (s : State) (x : PeerTable) : (s.withPeers x).pulse = s.pulse := rfl
@[simp] theorem State.withPeers_sensor (s : State) (x : PeerTable) : (s.withPeers x).sensor = s.sensor := rfl
@[simp] theorem State.withPeers_conv (s : State) (x : PeerTable) : (s.withPeers x).conv = s.conv := rfl
@[simp] theorem State.withPeers_tally (s : State) (x : PeerTable) : (s.withPeers x).tally = s.tally := rfl
@[simp] theorem State.withPeers_peers (s : State) (x : PeerTable) : (s.withPeers x).peers = x := rfl
@[simp] theorem State.withPeers_dose (s : State) (x : PeerTable) : (s.withPeers x).dose = s.dose := rfl
@[simp] theorem State.withPeers_pump (s : State) (x : PeerTable) : (s.withPeers x).pump = s.pump := rfl
@[simp] theorem State.withPeers_filter (s : State) (x : PeerTable) : (s.withPeers x).filter = s.filter := rfl
@[simp] theorem State.withPeers_store (s : State) (x : PeerTable) : (s.withPeers x).store = s.store := rfl
@[simp] theorem State.withPeers_port (s : State) (x : PeerTable) : (s.withPeers x).port = s.port := rfl
@[simp] theorem State.withPeers_alarm (s : State) (x : PeerTable) : (s.withPeers x).alarm = s.alarm := rfl
@[simp] theorem State.withPeers_pending (s : State) (x : PeerTable) : (s.withPeers x).pending = s.pending := rfl
@[simp] theorem State.withPeers_choices (s : State) (x : PeerTable) : (s.withPeers x).choices = s.choices := rfl
@[simp] theorem State.withPeers_nodeStraps (s : State) (x : PeerTable) : (s.withPeers x).nodeStraps = s.nodeStraps := rfl
@[simp] theorem State.withPeers_addressOffset (s : State) (x : PeerTable) : (s.withPeers x).addressOffset = s.addressOffset := rfl
@[simp] theorem State.withPeers_withPeers (s : State) (x y : PeerTable) : (s.withPeers x).withPeers y = s.withPeers y := rfl
@[simp] theorem State.withPeers_self (s : State) : s.withPeers s.peers = s := rfl

@[simp] theorem State.withDose_clock (s : State) (x : DoseAccounting) : (s.withDose x).clock = s.clock := rfl
@[simp] theorem State.withDose_cfg (s : State) (x : DoseAccounting) : (s.withDose x).cfg = s.cfg := rfl
@[simp] theorem State.withDose_pulse (s : State) (x : DoseAccounting) : (s.withDose x).pulse = s.pulse := rfl
@[simp] theorem State.withDose_sensor (s : State) (x : DoseAccounting) : (s.withDose x).sensor = s.sensor := rfl
@[simp] theorem State.withDose_conv (s : State) (x : DoseAccounting) : (s.withDose x).conv = s.conv := rfl
@[simp] theorem State.withDose_tally (s : State) (x : DoseAccounting) : (s.withDose x).tally = s.tally := rfl
@[simp] theorem State.withDose_peers (s : State) (x : DoseAccounting) : (s.withDose x).peers = s.peers := rfl
@[simp] theorem State.withDose_dose (s : State) (x : DoseAccounting) : (s.withDose x).dose = x := rfl
@[simp] theorem State.withDose_pump (s : State) (x : DoseAccounting) : (s.withDose x).pump = s.pump := rfl
@[simp] theorem State.withDose_filter (s : State) (x : DoseAccounting) : (s.withDose x).filter = s.filter := rfl
@[simp] theorem State.withDose_store (s : State) (x : DoseAccounting) : (s.withDose x).store = s.store := rfl
@[simp] theorem State.withDose_port (s : State) (x : DoseAccounting) : (s.withDose x).port = s.port := rfl
@[simp] theorem State.withDose_alarm (s : State) (x : DoseAccounting) : (s.withDose x).alarm = s.alarm := rfl
@[simp] theorem State.withDose_pending (s : State) (x : DoseAccounting) : (s.withDose x).pending = s.pending := rfl
@[simp] theorem State.withDose_choices (s : State) (x : DoseAccounting) : (s.withDose x).choices = s.choices := rfl
@[simp] theorem State.withDose_nodeStraps (s : State) (x : DoseAccounting) : (s.withDose x).nodeStraps = s.nodeStraps := rfl
@[simp] theorem State.withDose_addressOffset (s : State) (x : DoseAccounting) : (s.withDose x).addressOffset = s.addressOffset := rfl
@[simp] theorem State.withDose_withDose (s : State) (x y : DoseAccounting) : (s.withDose x).withDose y = s.withDose y := rfl
@[simp] theorem State.withDose_self (s : State) : s.withDose s.dose = s := rfl

@[simp] theorem State.withPump_clock (s : State) (x : PumpSequencer) : (s.withPump x).clock = s.clock := rfl
@[simp] theorem State.withPump_cfg (s : State) (x : PumpSequencer) : (s.withPump x).cfg = s.cfg := rfl
@[simp] theorem State.withPump_pulse (s : State) (x : PumpSequencer) : (s.withPump x).pulse = s.pulse := rfl
@[simp] theorem State.withPump_sensor (s : State) (x : PumpSequencer) : (s.withPump x).sensor = s.sensor := rfl
@[simp] theorem State.withPump_conv (s : State) (x : PumpSequencer) : (s.withPump x).conv = s.conv := rfl
@[simp] theorem State.withPump_tally (s : State) (x : PumpSequencer) : (s.withPump x).tally = s.tally := rfl
@[simp] theorem State.withPump_peers (s : State) (x : PumpSequencer) : (s.withPump x).peers = s.peers := rfl
@[simp] theorem State.withPump_dose (s : State) (x : PumpSequencer) : (s.withPump x).dose = s.dose := rfl
@[simp] theorem State.withPump_pump (s : State) (x : PumpSequencer) : (s.withPump x).pump = x := rfl
@[simp] theorem State.withPump_filter (s : State) (x : PumpSequencer) : (s.withPump x).filter = s.filter := rfl
@[simp] theorem State.withPump_store (s : State) (x : PumpSequencer) : (s.withPump x).store = s.store := rfl
@[simp] theorem State.withPump_port (s : State) (x : PumpSequencer) : (s.withPump x).port = s.port := rfl
@[simp] theorem State.withPump_alarm (s : State) (x : PumpSequencer) : (s.withPump x).alarm = s.alarm := rfl
@[simp] theorem State.withPump_pending (s : State) (x : PumpSequencer) : (s.withPump x).pending = s.pending := rfl
@[simp] theorem State.withPump_choices (s : State) (x : PumpSequencer) : (s.withPump x).choices = s.choices := rfl
@[simp] theorem State.withPump_nodeStraps (s : State) (x : PumpSequencer) : (s.withPump x).nodeStraps = s.nodeStraps := rfl
@[simp] theorem State.withPump_addressOffset (s : State) (x : PumpSequencer) : (s.withPump x).addressOffset = s.addressOffset := rfl
@[simp] theorem State.withPump_withPump (s : State) (x y : PumpSequencer) : (s.withPump x).withPump y = s.withPump y := rfl
@[simp] theorem State.withPump_self (s : State) : s.withPump s.pump = s := rfl

@[simp] theorem State.withFilter_clock (s : State) (x : ConcentrationFilter) : (s.withFilter x).clock = s.clock := rfl
@[simp] theorem State.withFilter_cfg (s : State) (x : ConcentrationFilter) : (s.withFilter x).cfg = s.cfg := rfl
@[simp] theorem State.withFilter_pulse (s : State) (x : ConcentrationFilter) : (s.withFilter x).pulse = s.pulse := rfl
@[simp] theorem State.withFilter_sensor (s : State) (x : ConcentrationFilter) : (s.withFilter x).sensor = s.sensor := rfl
@[simp] theorem State.withFilter_conv (s : State) (x : ConcentrationFilter) : (s.withFilter x).conv = s.conv := rfl
@[simp] theorem State.withFilter_tally (s : State) (x : ConcentrationFilter) : (s.withFilter x).tally = s.tally := rfl
@[simp] theorem State.withFilter_peers (s : State) (x : ConcentrationFilter) : (s.withFilter x).peers = s.peers := rfl
@[simp] theorem State.withFilter_dose (s : State) (x : ConcentrationFilter) : (s.withFilter x).dose = s.dose := rfl
@[simp] theorem State.withFilter_pump (s : State) (x : ConcentrationFilter) : (s.withFilter x).pump = s.pump := rfl
@[simp] theorem State.withFilter_filter (s : State) (x : ConcentrationFilter) : (s.withFilter x).filter = x := rfl
@[simp] theorem State.withFilter_store (s : State) (x : ConcentrationFilter) : (s.withFilter x).store = s.store := rfl
@[simp] theorem State.withFilter_port (s : State) (x : ConcentrationFilter) : (s.withFilter x).port = s.port := rfl
@[simp] theorem State.withFilter_alarm (s : State) (x : ConcentrationFilter) : (s.withFilter x).alarm = s.alarm := rfl
@[simp] theorem State.withFilter_pending (s : State) (x : ConcentrationFilter) : (s.withFilter x).pending = s.pending := rfl
@[simp] theorem State.withFilter_choices (s : State) (x : ConcentrationFilter) : (s.withFilter x).choices = s.choices := rfl
@[simp] theorem State.withFilter_nodeStraps (s : State) (x : ConcentrationFilter) : (s.withFilter x).nodeStraps = s.nodeStraps := rfl
@[simp] theorem State.withFilter_addressOffset (s : State) (x : ConcentrationFilter) : (s.withFilter x).addressOffset = s.addressOffset := rfl
@[simp] theorem State.withFilter_withFilter (s : State) (x y : ConcentrationFilter) : (s.withFilter x).withFilter y = s.withFilter y := rfl
@[simp] theorem State.withFilter_self (s : State) : s.withFilter s.filter = s := rfl

@[simp] theorem State.withStore_clock (s : State) (x : IntervalStore) : (s.withStore x).clock = s.clock := rfl
@[simp] theorem State.withStore_cfg (s : State) (x : IntervalStore) : (s.withStore x).cfg = s.cfg := rfl
@[simp] theorem State.withStore_pulse (s : State) (x : IntervalStore) : (s.withStore x).pulse = s.pulse := rfl
@[simp] theorem State.withStore_sensor (s : State) (x : IntervalStore) : (s.withStore x).sensor = s.sensor := rfl
@[simp] theorem State.withStore_conv (s : State) (x : IntervalStore) : (s.withStore x).conv = s.conv := rfl
@[simp] theorem State.withStore_tally (s : State) (x : IntervalStore) : (s.withStore x).tally = s.tally := rfl
@[simp] theorem State.withStore_peers (s : State) (x : IntervalStore) : (s.withStore x).peers = s.peers := rfl
@[simp] theorem State.withStore_dose (s : State) (x : IntervalStore) : (s.withStore x).dose = s.dose := rfl
@[simp] theorem State.withStore_pump (s : State) (x : IntervalStore) : (s.withStore x).pump = s.pump := rfl
@[simp] theorem State.withStore_filter (s : State) (x : IntervalStore) : (s.withStore x).filter = s.filter := rfl
@[simp] theorem State.withStore_store (s : State) (x : IntervalStore) : (s.withStore x).store = x := rfl
@[simp] theorem State.withStore_port (s : State) (x : IntervalStore) : (s.withStore x).port = s.port := rfl
@[simp] theorem State.withStore_alarm (s : State) (x : IntervalStore) : (s.withStore x).alarm = s.alarm := rfl
@[simp] theorem State.withStore_pending (s : State) (x : IntervalStore) : (s.withStore x).pending = s.pending := rfl
@[simp] theorem State.withStore_choices (s : State) (x : IntervalStore) : (s.withStore x).choices = s.choices := rfl
@[simp] theorem State.withStore_nodeStraps (s : State) (x : IntervalStore) : (s.withStore x).nodeStraps = s.nodeStraps := rfl
@[simp] theorem State.withStore_addressOffset (s : State) (x : IntervalStore) : (s.withStore x).addressOffset = s.addressOffset := rfl
@[simp] theorem State.withStore_withStore (s : State) (x y : IntervalStore) : (s.withStore x).withStore y = s.withStore y := rfl
@[simp] theorem State.withStore_self (s : State) : s.withStore s.store = s := rfl

@[simp] theorem State.withPort_clock (s : State) (x : SupervisoryPort) : (s.withPort x).clock = s.clock := rfl
@[simp] theorem State.withPort_cfg (s : State) (x : SupervisoryPort) : (s.withPort x).cfg = s.cfg := rfl
@[simp] theorem State.withPort_pulse (s : State) (x : SupervisoryPort) : (s.withPort x).pulse = s.pulse := rfl
@[simp] theorem State.withPort_sensor (s : State) (x : SupervisoryPort) : (s.withPort x).sensor = s.sensor := rfl
@[simp] theorem State.withPort_conv (s : State) (x : SupervisoryPort) : (s.withPort x).conv = s.conv := rfl
@[simp] theorem State.withPort_tally (s : State) (x : SupervisoryPort) : (s.withPort x).tally = s.tally := rfl
@[simp] theorem State.withPort_peers (s : State) (x : SupervisoryPort) : (s.withPort x).peers = s.peers := rfl
@[simp] theorem State.withPort_dose (s : State) (x : SupervisoryPort) : (s.withPort x).dose = s.dose := rfl
@[simp] theorem State.withPort_pump (s : State) (x : SupervisoryPort) : (s.withPort x).pump = s.pump := rfl
@[simp] theorem State.withPort_filter (s : State) (x : SupervisoryPort) : (s.withPort x).filter = s.filter := rfl
@[simp] theorem State.withPort_store (s : State) (x : SupervisoryPort) : (s.withPort x).store = s.store := rfl
@[simp] theorem State.withPort_port (s : State) (x : SupervisoryPort) : (s.withPort x).port = x := rfl
@[simp] theorem State.withPort_alarm (s : State) (x : SupervisoryPort) : (s.withPort x).alarm = s.alarm := rfl
@[simp] theorem State.withPort_pending (s : State) (x : SupervisoryPort) : (s.withPort x).pending = s.pending := rfl
@[simp] theorem State.withPort_choices (s : State) (x : SupervisoryPort) : (s.withPort x).choices = s.choices := rfl
@[simp] theorem State.withPort_nodeStraps (s : State) (x : SupervisoryPort) : (s.withPort x).nodeStraps = s.nodeStraps := rfl
@[simp] theorem State.withPort_addressOffset (s : State) (x : SupervisoryPort) : (s.withPort x).addressOffset = s.addressOffset := rfl
@[simp] theorem State.withPort_withPort (s : State) (x y : SupervisoryPort) : (s.withPort x).withPort y = s.withPort y := rfl
@[simp] theorem State.withPort_self (s : State) : s.withPort s.port = s := rfl

@[simp] theorem State.withAlarm_clock (s : State) (x : AlarmUnit) : (s.withAlarm x).clock = s.clock := rfl
@[simp] theorem State.withAlarm_cfg (s : State) (x : AlarmUnit) : (s.withAlarm x).cfg = s.cfg := rfl
@[simp] theorem State.withAlarm_pulse (s : State) (x : AlarmUnit) : (s.withAlarm x).pulse = s.pulse := rfl
@[simp] theorem State.withAlarm_sensor (s : State) (x : AlarmUnit) : (s.withAlarm x).sensor = s.sensor := rfl
@[simp] theorem State.withAlarm_conv (s : State) (x : AlarmUnit) : (s.withAlarm x).conv = s.conv := rfl
@[simp] theorem State.withAlarm_tally (s : State) (x : AlarmUnit) : (s.withAlarm x).tally = s.tally := rfl
@[simp] theorem State.withAlarm_peers (s : State) (x : AlarmUnit) : (s.withAlarm x).peers = s.peers := rfl
@[simp] theorem State.withAlarm_dose (s : State) (x : AlarmUnit) : (s.withAlarm x).dose = s.dose := rfl
@[simp] theorem State.withAlarm_pump (s : State) (x : AlarmUnit) : (s.withAlarm x).pump = s.pump := rfl
@[simp] theorem State.withAlarm_filter (s : State) (x : AlarmUnit) : (s.withAlarm x).filter = s.filter := rfl
@[simp] theorem State.withAlarm_store (s : State) (x : AlarmUnit) : (s.withAlarm x).store = s.store := rfl
@[simp] theorem State.withAlarm_port (s : State) (x : AlarmUnit) : (s.withAlarm x).port = s.port := rfl
@[simp] theorem State.withAlarm_alarm (s : State) (x : AlarmUnit) : (s.withAlarm x).alarm = x := rfl
@[simp] theorem State.withAlarm_pending (s : State) (x : AlarmUnit) : (s.withAlarm x).pending = s.pending := rfl
@[simp] theorem State.withAlarm_choices (s : State) (x : AlarmUnit) : (s.withAlarm x).choices = s.choices := rfl
@[simp] theorem State.withAlarm_nodeStraps (s : State) (x : AlarmUnit) : (s.withAlarm x).nodeStraps = s.nodeStraps := rfl
@[simp] theorem State.withAlarm_addressOffset (s : State) (x : AlarmUnit) : (s.withAlarm x).addressOffset = s.addressOffset := rfl
@[simp] theorem State.withAlarm_withAlarm (s : State) (x y : AlarmUnit) : (s.withAlarm x).withAlarm y = s.withAlarm y := rfl
@[simp] theorem State.withAlarm_self (s : State) : s.withAlarm s.alarm = s := rfl

@[simp] theorem State.withPending_clock (s : State) (x : List Instr) : (s.withPending x).clock = s.clock := rfl
@[simp] theorem State.withPending_cfg (s : State) (x : List Instr) : (s.withPending x).cfg = s.cfg := rfl
@[simp] theorem State.withPending_pulse (s : State) (x : List Instr) : (s.withPending x).pulse = s.pulse := rfl
@[simp] theorem State.withPending_sensor (s : State) (x : List Instr) : (s.withPending x).sensor = s.sensor := rfl
@[simp] theorem State.withPending_conv (s : State) (x : List Instr) : (s.withPending x).conv = s.conv := rfl
@[simp] theorem State.withPending_tally (s : State) (x : List Instr) : (s.withPending x).tally = s.tally := rfl
@[simp] theorem State.withPending_peers (s : State) (x : List Instr) : (s.withPending x).peers = s.peers := rfl
@[simp] theorem State.withPending_dose (s : State) (x : List Instr) : (s.withPending x).dose = s.dose := rfl
@[simp] theorem State.withPending_pump (s : State) (x : List Instr) : (s.withPending x).pump = s.pump := rfl
@[simp] theorem State.withPending_filter (s : State) (x : List Instr) : (s.withPending x).filter = s.filter := rfl
@[simp] theorem State.withPending_store (s : State) (x : List Instr) : (s.withPending x).store = s.store := rfl
@[simp] theorem State.withPending_port (s : State) (x : List Instr) : (s.withPending x).port = s.port := rfl
@[simp] theorem State.withPending_alarm (s : State) (x : List Instr) : (s.withPending x).alarm = s.alarm := rfl
@[simp] theorem State.withPending_pending (s : State) (x : List Instr) : (s.withPending x).pending = x := rfl
@[simp] theorem State.withPending_choices (s : State) (x : List Instr) : (s.withPending x).choices = s.choices := rfl
@[simp] theorem State.withPending_nodeStraps (s : State) (x : List Instr) : (s.withPending x).nodeStraps = s.nodeStraps := rfl
@[simp] theorem State.withPending_addressOffset (s : State) (x : List Instr) : (s.withPending x).addressOffset = s.addressOffset := rfl
@[simp] theorem State.withPending_withPending (s : State) (x y : List Instr) : (s.withPending x).withPending y = s.withPending y := rfl
@[simp] theorem State.withPending_self (s : State) : s.withPending s.pending = s := rfl

@[simp] theorem State.withChoices_clock (s : State) (x : Nat) : (s.withChoices x).clock = s.clock := rfl
@[simp] theorem State.withChoices_cfg (s : State) (x : Nat) : (s.withChoices x).cfg = s.cfg := rfl
@[simp] theorem State.withChoices_pulse (s : State) (x : Nat) : (s.withChoices x).pulse = s.pulse := rfl
@[simp] theorem State.withChoices_sensor (s : State) (x : Nat) : (s.withChoices x).sensor = s.sensor := rfl
@[simp] theorem State.withChoices_conv (s : State) (x : Nat) : (s.withChoices x).conv = s.conv := rfl
@[simp] theorem State.withChoices_tally (s : State) (x : Nat) : (s.withChoices x).tally = s.tally := rfl
@[simp] theorem State.withChoices_peers (s : State) (x : Nat) : (s.withChoices x).peers = s.peers := rfl
@[simp] theorem State.withChoices_dose (s : State) (x : Nat) : (s.withChoices x).dose = s.dose := rfl
@[simp] theorem State.withChoices_pump (s : State) (x : Nat) : (s.withChoices x).pump = s.pump := rfl
@[simp] theorem State.withChoices_filter (s : State) (x : Nat) : (s.withChoices x).filter = s.filter := rfl
@[simp] theorem State.withChoices_store (s : State) (x : Nat) : (s.withChoices x).store = s.store := rfl
@[simp] theorem State.withChoices_port (s : State) (x : Nat) : (s.withChoices x).port = s.port := rfl
@[simp] theorem State.withChoices_alarm (s : State) (x : Nat) : (s.withChoices x).alarm = s.alarm := rfl
@[simp] theorem State.withChoices_pending (s : State) (x : Nat) : (s.withChoices x).pending = s.pending := rfl
@[simp] theorem State.withChoices_choices (s : State) (x : Nat) : (s.withChoices x).choices = x := rfl
@[simp] theorem State.withChoices_nodeStraps (s : State) (x : Nat) : (s.withChoices x).nodeStraps = s.nodeStraps := rfl
@[simp] theorem State.withChoices_addressOffset (s : State) (x : Nat) : (s.withChoices x).addressOffset = s.addressOffset := rfl
@[simp] theorem State.withChoices_withChoices (s : State) (x y : Nat) : (s.withChoices x).withChoices y = s.withChoices y := rfl
@[simp] theorem State.withChoices_self (s : State) : s.withChoices s.choices = s := rfl

end Sys2Proof.Machine
end

