-- ==== Sys2Proof/Laws/Frames.lean ====
section
/-! SUPPORT. What each shared operation leaves as it stands: one lemma per operation, tagged for simp, so that no proof
unfolds an operation to see that a block is untouched. -/

namespace Sys2Proof.Machine

/-! ## Alarm Unit and flags -/

@[simp] theorem raise_frame (c : Cond) (s : State) :
    (raise c s).clock = s.clock ∧ (raise c s).nodeStraps = s.nodeStraps ∧
      (raise c s).addressOffset = s.addressOffset ∧ (raise c s).cfg = s.cfg ∧ (raise c s).pulse = s.pulse ∧
      (raise c s).sensor = s.sensor ∧ (raise c s).conv = s.conv ∧ (raise c s).tally = s.tally ∧
      (raise c s).peers = s.peers ∧ (raise c s).dose = s.dose ∧ (raise c s).pump = s.pump ∧
      (raise c s).filter = s.filter ∧ (raise c s).store = s.store ∧ (raise c s).port = s.port ∧
      (raise c s).pending = s.pending ∧ (raise c s).choices = s.choices := by
  unfold raise
  simp

@[simp] theorem raise_reads (c : Cond) (s : State) :
    (raise c s).nodeNumber = s.nodeNumber ∧
      (raise c s).advertised = s.advertised := by
  simp [State.nodeNumber, State.advertised]

@[simp] theorem rise_frame (c : Cond) (s : State) :
    (rise c s).clock = s.clock ∧ (rise c s).nodeStraps = s.nodeStraps ∧ (rise c s).addressOffset = s.addressOffset ∧
      (rise c s).cfg = s.cfg ∧ (rise c s).pulse = s.pulse ∧ (rise c s).sensor = s.sensor ∧ (rise c s).conv = s.conv ∧
      (rise c s).tally = s.tally ∧ (rise c s).peers = s.peers ∧ (rise c s).dose = s.dose ∧ (rise c s).pump = s.pump ∧
      (rise c s).filter = s.filter ∧ (rise c s).store = s.store ∧ (rise c s).port = s.port ∧
      (rise c s).pending = s.pending ∧ (rise c s).choices = s.choices := by
  unfold rise
  simp

@[simp] theorem rise_reads (c : Cond) (s : State) :
    (rise c s).nodeNumber = s.nodeNumber ∧
      (rise c s).advertised = s.advertised := by
  simp [State.nodeNumber, State.advertised]

@[simp] theorem fall_frame (c : Cond) (s : State) :
    (fall c s).clock = s.clock ∧ (fall c s).nodeStraps = s.nodeStraps ∧ (fall c s).addressOffset = s.addressOffset ∧
      (fall c s).cfg = s.cfg ∧ (fall c s).pulse = s.pulse ∧ (fall c s).sensor = s.sensor ∧ (fall c s).conv = s.conv ∧
      (fall c s).tally = s.tally ∧ (fall c s).peers = s.peers ∧ (fall c s).dose = s.dose ∧ (fall c s).pump = s.pump ∧
      (fall c s).filter = s.filter ∧ (fall c s).store = s.store ∧ (fall c s).port = s.port ∧
      (fall c s).pending = s.pending ∧ (fall c s).choices = s.choices := by
  unfold fall
  simp

@[simp] theorem fall_reads (c : Cond) (s : State) :
    (fall c s).nodeNumber = s.nodeNumber ∧
      (fall c s).advertised = s.advertised := by
  simp [State.nodeNumber, State.advertised]

@[simp] theorem setLevel_frame (c : Cond) (v : Bool) (s : State) :
    (setLevel c v s).clock = s.clock ∧ (setLevel c v s).nodeStraps = s.nodeStraps ∧
      (setLevel c v s).addressOffset = s.addressOffset ∧ (setLevel c v s).cfg = s.cfg ∧
      (setLevel c v s).pulse = s.pulse ∧ (setLevel c v s).sensor = s.sensor ∧ (setLevel c v s).conv = s.conv ∧
      (setLevel c v s).tally = s.tally ∧ (setLevel c v s).peers = s.peers ∧ (setLevel c v s).dose = s.dose ∧
      (setLevel c v s).pump = s.pump ∧ (setLevel c v s).filter = s.filter ∧ (setLevel c v s).store = s.store ∧
      (setLevel c v s).port = s.port ∧ (setLevel c v s).pending = s.pending ∧ (setLevel c v s).choices = s.choices := by
  unfold setLevel
  (repeat' split) <;> simp

@[simp] theorem setLevel_reads (c : Cond) (v : Bool) (s : State) :
    (setLevel c v s).nodeNumber = s.nodeNumber ∧
      (setLevel c v s).advertised = s.advertised := by
  simp [State.nodeNumber, State.advertised]

@[simp] theorem onInterval_frame (f : CurrentInterval → CurrentInterval) (s : State) :
    (onInterval f s).clock = s.clock ∧ (onInterval f s).nodeStraps = s.nodeStraps ∧
      (onInterval f s).addressOffset = s.addressOffset ∧ (onInterval f s).cfg = s.cfg ∧
      (onInterval f s).pulse = s.pulse ∧ (onInterval f s).sensor = s.sensor ∧ (onInterval f s).conv = s.conv ∧
      (onInterval f s).tally = s.tally ∧ (onInterval f s).peers = s.peers ∧ (onInterval f s).dose = s.dose ∧
      (onInterval f s).pump = s.pump ∧ (onInterval f s).filter = s.filter ∧ (onInterval f s).port = s.port ∧
      (onInterval f s).alarm = s.alarm ∧ (onInterval f s).pending = s.pending ∧ (onInterval f s).choices = s.choices := by
  unfold onInterval
  simp

@[simp] theorem onInterval_reads (f : CurrentInterval → CurrentInterval) (s : State) :
    (∀ z, (onInterval f s).isTrue z = s.isTrue z) ∧
      (∀ z, (onInterval f s).isLatched z = s.isLatched z) ∧
      (onInterval f s).nodeNumber = s.nodeNumber ∧
      (onInterval f s).advertised = s.advertised := by
  simp [State.isTrue, State.isLatched, State.nodeNumber, State.advertised]

@[simp] theorem setFlag_frame (f : Flag) (s : State) :
    (setFlag f s).clock = s.clock ∧ (setFlag f s).nodeStraps = s.nodeStraps ∧
      (setFlag f s).addressOffset = s.addressOffset ∧ (setFlag f s).cfg = s.cfg ∧ (setFlag f s).pulse = s.pulse ∧
      (setFlag f s).sensor = s.sensor ∧ (setFlag f s).conv = s.conv ∧ (setFlag f s).tally = s.tally ∧
      (setFlag f s).peers = s.peers ∧ (setFlag f s).dose = s.dose ∧ (setFlag f s).pump = s.pump ∧
      (setFlag f s).filter = s.filter ∧ (setFlag f s).port = s.port ∧ (setFlag f s).alarm = s.alarm ∧
      (setFlag f s).pending = s.pending ∧ (setFlag f s).choices = s.choices := by
  unfold setFlag
  simp

@[simp] theorem setFlag_reads (f : Flag) (s : State) :
    (∀ z, (setFlag f s).isTrue z = s.isTrue z) ∧
      (∀ z, (setFlag f s).isLatched z = s.isLatched z) ∧
      (setFlag f s).nodeNumber = s.nodeNumber ∧
      (setFlag f s).advertised = s.advertised := by
  simp [State.isTrue, State.isLatched, State.nodeNumber, State.advertised]

@[simp] theorem setFlagIf_frame (v : Bool) (f : Flag) (s : State) :
    (setFlagIf v f s).clock = s.clock ∧ (setFlagIf v f s).nodeStraps = s.nodeStraps ∧
      (setFlagIf v f s).addressOffset = s.addressOffset ∧ (setFlagIf v f s).cfg = s.cfg ∧
      (setFlagIf v f s).pulse = s.pulse ∧ (setFlagIf v f s).sensor = s.sensor ∧ (setFlagIf v f s).conv = s.conv ∧
      (setFlagIf v f s).tally = s.tally ∧ (setFlagIf v f s).peers = s.peers ∧ (setFlagIf v f s).dose = s.dose ∧
      (setFlagIf v f s).pump = s.pump ∧ (setFlagIf v f s).filter = s.filter ∧ (setFlagIf v f s).port = s.port ∧
      (setFlagIf v f s).alarm = s.alarm ∧ (setFlagIf v f s).pending = s.pending ∧
      (setFlagIf v f s).choices = s.choices := by
  unfold setFlagIf
  (repeat' split) <;> simp

@[simp] theorem setFlagIf_reads (v : Bool) (f : Flag) (s : State) :
    (∀ z, (setFlagIf v f s).isTrue z = s.isTrue z) ∧
      (∀ z, (setFlagIf v f s).isLatched z = s.isLatched z) ∧
      (setFlagIf v f s).nodeNumber = s.nodeNumber ∧
      (setFlagIf v f s).advertised = s.advertised := by
  simp [State.isTrue, State.isLatched, State.nodeNumber, State.advertised]

@[simp] theorem raiseIf_frame (v : Bool) (c : Cond) (f : Flag) (s : State) :
    (raiseIf v c f s).clock = s.clock ∧ (raiseIf v c f s).nodeStraps = s.nodeStraps ∧
      (raiseIf v c f s).addressOffset = s.addressOffset ∧ (raiseIf v c f s).cfg = s.cfg ∧
      (raiseIf v c f s).pulse = s.pulse ∧ (raiseIf v c f s).sensor = s.sensor ∧ (raiseIf v c f s).conv = s.conv ∧
      (raiseIf v c f s).tally = s.tally ∧ (raiseIf v c f s).peers = s.peers ∧ (raiseIf v c f s).dose = s.dose ∧
      (raiseIf v c f s).pump = s.pump ∧ (raiseIf v c f s).filter = s.filter ∧ (raiseIf v c f s).port = s.port ∧
      (raiseIf v c f s).pending = s.pending ∧ (raiseIf v c f s).choices = s.choices := by
  unfold raiseIf
  (repeat' split) <;> simp

@[simp] theorem raiseIf_reads (v : Bool) (c : Cond) (f : Flag) (s : State) :
    (raiseIf v c f s).nodeNumber = s.nodeNumber ∧
      (raiseIf v c f s).advertised = s.advertised := by
  simp [State.nodeNumber, State.advertised]

@[simp] theorem setLevelFlag_frame (c : Cond) (f : Flag) (v : Bool) (s : State) :
    (setLevelFlag c f v s).clock = s.clock ∧ (setLevelFlag c f v s).nodeStraps = s.nodeStraps ∧
      (setLevelFlag c f v s).addressOffset = s.addressOffset ∧ (setLevelFlag c f v s).cfg = s.cfg ∧
      (setLevelFlag c f v s).pulse = s.pulse ∧ (setLevelFlag c f v s).sensor = s.sensor ∧
      (setLevelFlag c f v s).conv = s.conv ∧ (setLevelFlag c f v s).tally = s.tally ∧
      (setLevelFlag c f v s).peers = s.peers ∧ (setLevelFlag c f v s).dose = s.dose ∧
      (setLevelFlag c f v s).pump = s.pump ∧ (setLevelFlag c f v s).filter = s.filter ∧
      (setLevelFlag c f v s).port = s.port ∧ (setLevelFlag c f v s).pending = s.pending ∧
      (setLevelFlag c f v s).choices = s.choices := by
  unfold setLevelFlag
  simp

@[simp] theorem setLevelFlag_reads (c : Cond) (f : Flag) (v : Bool) (s : State) :
    (setLevelFlag c f v s).nodeNumber = s.nodeNumber ∧
      (setLevelFlag c f v s).advertised = s.advertised := by
  simp [State.nodeNumber, State.advertised]


/-! ## Dose Accounting and the pump marks -/

@[simp] theorem reportPump_frame (s : State) :
    (reportPump s).clock = s.clock ∧ (reportPump s).nodeStraps = s.nodeStraps ∧
      (reportPump s).addressOffset = s.addressOffset ∧ (reportPump s).cfg = s.cfg ∧ (reportPump s).pulse = s.pulse ∧
      (reportPump s).sensor = s.sensor ∧ (reportPump s).conv = s.conv ∧ (reportPump s).tally = s.tally ∧
      (reportPump s).peers = s.peers ∧ (reportPump s).dose = s.dose ∧ (reportPump s).pump = s.pump ∧
      (reportPump s).filter = s.filter ∧ (reportPump s).port = s.port ∧ (reportPump s).pending = s.pending ∧
      (reportPump s).choices = s.choices := by
  unfold reportPump
  simp

@[simp] theorem reportPump_reads (s : State) :
    (reportPump s).nodeNumber = s.nodeNumber ∧
      (reportPump s).advertised = s.advertised := by
  simp [State.nodeNumber, State.advertised]

@[simp] theorem testWatermarks_frame (s : State) :
    (testWatermarks s).clock = s.clock ∧ (testWatermarks s).nodeStraps = s.nodeStraps ∧
      (testWatermarks s).addressOffset = s.addressOffset ∧ (testWatermarks s).cfg = s.cfg ∧
      (testWatermarks s).pulse = s.pulse ∧ (testWatermarks s).sensor = s.sensor ∧ (testWatermarks s).conv = s.conv ∧
      (testWatermarks s).tally = s.tally ∧ (testWatermarks s).peers = s.peers ∧ (testWatermarks s).dose = s.dose ∧
      (testWatermarks s).filter = s.filter ∧ (testWatermarks s).store = s.store ∧ (testWatermarks s).port = s.port ∧
      (testWatermarks s).alarm = s.alarm ∧ (testWatermarks s).pending = s.pending ∧
      (testWatermarks s).choices = s.choices := by
  unfold testWatermarks
  dsimp only
  (repeat' split) <;> simp

@[simp] theorem testWatermarks_reads (s : State) :
    (∀ z, (testWatermarks s).isTrue z = s.isTrue z) ∧
      (∀ z, (testWatermarks s).isLatched z = s.isLatched z) ∧
      (testWatermarks s).nodeNumber = s.nodeNumber := by
  simp [State.isTrue, State.isLatched, State.nodeNumber]

@[simp] theorem setDebt_frame (x : Nat) (s : State) :
    (setDebt x s).clock = s.clock ∧ (setDebt x s).nodeStraps = s.nodeStraps ∧
      (setDebt x s).addressOffset = s.addressOffset ∧ (setDebt x s).cfg = s.cfg ∧ (setDebt x s).pulse = s.pulse ∧
      (setDebt x s).sensor = s.sensor ∧ (setDebt x s).conv = s.conv ∧ (setDebt x s).tally = s.tally ∧
      (setDebt x s).peers = s.peers ∧ (setDebt x s).filter = s.filter ∧ (setDebt x s).port = s.port ∧
      (setDebt x s).pending = s.pending ∧ (setDebt x s).choices = s.choices := by
  unfold setDebt
  (repeat' split) <;> simp

@[simp] theorem setDebt_reads (x : Nat) (s : State) :
    (setDebt x s).nodeNumber = s.nodeNumber := by
  simp [State.nodeNumber]

@[simp] theorem setCondition_frame (c : PumpCondition) (s : State) :
    (setCondition c s).clock = s.clock ∧ (setCondition c s).nodeStraps = s.nodeStraps ∧
      (setCondition c s).addressOffset = s.addressOffset ∧ (setCondition c s).cfg = s.cfg ∧
      (setCondition c s).pulse = s.pulse ∧ (setCondition c s).sensor = s.sensor ∧ (setCondition c s).conv = s.conv ∧
      (setCondition c s).tally = s.tally ∧ (setCondition c s).peers = s.peers ∧ (setCondition c s).dose = s.dose ∧
      (setCondition c s).filter = s.filter ∧ (setCondition c s).port = s.port ∧
      (setCondition c s).pending = s.pending ∧ (setCondition c s).choices = s.choices := by
  unfold setCondition
  simp

@[simp] theorem setCondition_reads (c : PumpCondition) (s : State) :
    (setCondition c s).nodeNumber = s.nodeNumber := by
  simp [State.nodeNumber]

@[simp] theorem addReleased_frame (x : Nat) (s : State) :
    (addReleased x s).clock = s.clock ∧ (addReleased x s).nodeStraps = s.nodeStraps ∧
      (addReleased x s).addressOffset = s.addressOffset ∧ (addReleased x s).cfg = s.cfg ∧
      (addReleased x s).pulse = s.pulse ∧ (addReleased x s).sensor = s.sensor ∧ (addReleased x s).conv = s.conv ∧
      (addReleased x s).tally = s.tally ∧ (addReleased x s).peers = s.peers ∧ (addReleased x s).pump = s.pump ∧
      (addReleased x s).filter = s.filter ∧ (addReleased x s).port = s.port ∧ (addReleased x s).alarm = s.alarm ∧
      (addReleased x s).pending = s.pending ∧ (addReleased x s).choices = s.choices := by
  unfold addReleased
  simp

@[simp] theorem addReleased_reads (x : Nat) (s : State) :
    (∀ z, (addReleased x s).isTrue z = s.isTrue z) ∧
      (∀ z, (addReleased x s).isLatched z = s.isLatched z) ∧
      (addReleased x s).nodeNumber = s.nodeNumber ∧
      (addReleased x s).advertised = s.advertised := by
  simp [State.isTrue, State.isLatched, State.nodeNumber, State.advertised]

@[simp] theorem release_frame (s : State) :
    (release s).clock = s.clock ∧ (release s).nodeStraps = s.nodeStraps ∧
      (release s).addressOffset = s.addressOffset ∧ (release s).cfg = s.cfg ∧ (release s).pulse = s.pulse ∧
      (release s).sensor = s.sensor ∧ (release s).conv = s.conv ∧ (release s).tally = s.tally ∧
      (release s).peers = s.peers ∧ (release s).filter = s.filter ∧ (release s).port = s.port ∧
      (release s).pending = s.pending ∧ (release s).choices = s.choices := by
  unfold release
  (repeat' split) <;> simp

@[simp] theorem release_reads (s : State) :
    (release s).nodeNumber = s.nodeNumber := by
  simp [State.nodeNumber]

@[simp] theorem takeIntoDebt_frame (x : Nat) (s : State) :
    (takeIntoDebt x s).clock = s.clock ∧ (takeIntoDebt x s).nodeStraps = s.nodeStraps ∧
      (takeIntoDebt x s).addressOffset = s.addressOffset ∧ (takeIntoDebt x s).cfg = s.cfg ∧
      (takeIntoDebt x s).pulse = s.pulse ∧ (takeIntoDebt x s).sensor = s.sensor ∧ (takeIntoDebt x s).conv = s.conv ∧
      (takeIntoDebt x s).tally = s.tally ∧ (takeIntoDebt x s).peers = s.peers ∧
      (takeIntoDebt x s).filter = s.filter ∧ (takeIntoDebt x s).port = s.port ∧
      (takeIntoDebt x s).pending = s.pending ∧ (takeIntoDebt x s).choices = s.choices := by
  unfold takeIntoDebt
  (repeat' split) <;> simp

@[simp] theorem takeIntoDebt_reads (x : Nat) (s : State) :
    (takeIntoDebt x s).nodeNumber = s.nodeNumber := by
  simp [State.nodeNumber]

@[simp] theorem landCharge_frame (x : Nat) (s : State) :
    (landCharge x s).clock = s.clock ∧ (landCharge x s).nodeStraps = s.nodeStraps ∧
      (landCharge x s).addressOffset = s.addressOffset ∧ (landCharge x s).cfg = s.cfg ∧
      (landCharge x s).pulse = s.pulse ∧ (landCharge x s).sensor = s.sensor ∧ (landCharge x s).conv = s.conv ∧
      (landCharge x s).tally = s.tally ∧ (landCharge x s).peers = s.peers ∧ (landCharge x s).filter = s.filter ∧
      (landCharge x s).port = s.port ∧ (landCharge x s).pending = s.pending ∧ (landCharge x s).choices = s.choices := by
  unfold landCharge
  (repeat' split) <;> simp

@[simp] theorem landCharge_reads (x : Nat) (s : State) :
    (landCharge x s).nodeNumber = s.nodeNumber := by
  simp [State.nodeNumber]

@[simp] theorem charge_frame (w : Nat) (s : State) :
    (charge w s).clock = s.clock ∧ (charge w s).nodeStraps = s.nodeStraps ∧
      (charge w s).addressOffset = s.addressOffset ∧ (charge w s).cfg = s.cfg ∧ (charge w s).pulse = s.pulse ∧
      (charge w s).sensor = s.sensor ∧ (charge w s).conv = s.conv ∧ (charge w s).tally = s.tally ∧
      (charge w s).peers = s.peers ∧ (charge w s).filter = s.filter ∧ (charge w s).port = s.port ∧
      (charge w s).pending = s.pending ∧ (charge w s).choices = s.choices := by
  unfold charge
  simp

@[simp] theorem charge_reads (w : Nat) (s : State) :
    (charge w s).nodeNumber = s.nodeNumber := by
  simp [State.nodeNumber]

@[simp] theorem peerCharge_frame (d : Nat) (s : State) :
    (peerCharge d s).clock = s.clock ∧ (peerCharge d s).nodeStraps = s.nodeStraps ∧
      (peerCharge d s).addressOffset = s.addressOffset ∧ (peerCharge d s).cfg = s.cfg ∧
      (peerCharge d s).pulse = s.pulse ∧ (peerCharge d s).sensor = s.sensor ∧ (peerCharge d s).conv = s.conv ∧
      (peerCharge d s).tally = s.tally ∧ (peerCharge d s).peers = s.peers ∧ (peerCharge d s).filter = s.filter ∧
      (peerCharge d s).port = s.port ∧ (peerCharge d s).pending = s.pending ∧ (peerCharge d s).choices = s.choices := by
  unfold peerCharge
  simp

@[simp] theorem peerCharge_reads (d : Nat) (s : State) :
    (peerCharge d s).nodeNumber = s.nodeNumber := by
  simp [State.nodeNumber]

@[simp] theorem addUndosed_frame (v : Nat) (s : State) :
    (addUndosed v s).clock = s.clock ∧ (addUndosed v s).nodeStraps = s.nodeStraps ∧
      (addUndosed v s).addressOffset = s.addressOffset ∧ (addUndosed v s).cfg = s.cfg ∧
      (addUndosed v s).pulse = s.pulse ∧ (addUndosed v s).sensor = s.sensor ∧ (addUndosed v s).conv = s.conv ∧
      (addUndosed v s).tally = s.tally ∧ (addUndosed v s).peers = s.peers ∧ (addUndosed v s).pump = s.pump ∧
      (addUndosed v s).filter = s.filter ∧ (addUndosed v s).port = s.port ∧ (addUndosed v s).pending = s.pending ∧
      (addUndosed v s).choices = s.choices := by
  unfold addUndosed
  simp

@[simp] theorem addUndosed_reads (v : Nat) (s : State) :
    (addUndosed v s).nodeNumber = s.nodeNumber ∧
      (addUndosed v s).advertised = s.advertised := by
  simp [State.nodeNumber, State.advertised]

@[simp] theorem recordOwnCycle_frame (c : OwnCycle) (s : State) :
    (recordOwnCycle c s).clock = s.clock ∧ (recordOwnCycle c s).nodeStraps = s.nodeStraps ∧
      (recordOwnCycle c s).addressOffset = s.addressOffset ∧ (recordOwnCycle c s).cfg = s.cfg ∧
      (recordOwnCycle c s).pulse = s.pulse ∧ (recordOwnCycle c s).sensor = s.sensor ∧
      (recordOwnCycle c s).conv = s.conv ∧ (recordOwnCycle c s).tally = s.tally ∧
      (recordOwnCycle c s).peers = s.peers ∧ (recordOwnCycle c s).pump = s.pump ∧
      (recordOwnCycle c s).filter = s.filter ∧ (recordOwnCycle c s).store = s.store ∧
      (recordOwnCycle c s).port = s.port ∧ (recordOwnCycle c s).alarm = s.alarm ∧
      (recordOwnCycle c s).pending = s.pending ∧ (recordOwnCycle c s).choices = s.choices := by
  unfold recordOwnCycle
  simp

@[simp] theorem recordOwnCycle_reads (c : OwnCycle) (s : State) :
    (∀ z, (recordOwnCycle c s).isTrue z = s.isTrue z) ∧
      (∀ z, (recordOwnCycle c s).isLatched z = s.isLatched z) ∧
      (recordOwnCycle c s).nodeNumber = s.nodeNumber ∧
      (recordOwnCycle c s).advertised = s.advertised := by
  simp [State.isTrue, State.isLatched, State.nodeNumber, State.advertised]

@[simp] theorem ownCycleEvent_frame (n : BitVec 32) (v : Nat) (s : State) :
    (ownCycleEvent n v s).clock = s.clock ∧ (ownCycleEvent n v s).nodeStraps = s.nodeStraps ∧
      (ownCycleEvent n v s).addressOffset = s.addressOffset ∧ (ownCycleEvent n v s).cfg = s.cfg ∧
      (ownCycleEvent n v s).pulse = s.pulse ∧ (ownCycleEvent n v s).sensor = s.sensor ∧
      (ownCycleEvent n v s).conv = s.conv ∧ (ownCycleEvent n v s).tally = s.tally ∧
      (ownCycleEvent n v s).peers = s.peers ∧ (ownCycleEvent n v s).filter = s.filter ∧
      (ownCycleEvent n v s).port = s.port ∧ (ownCycleEvent n v s).pending = s.pending ∧
      (ownCycleEvent n v s).choices = s.choices := by
  unfold ownCycleEvent
  (repeat' split) <;> simp

@[simp] theorem ownCycleEvent_reads (n : BitVec 32) (v : Nat) (s : State) :
    (ownCycleEvent n v s).nodeNumber = s.nodeNumber := by
  simp [State.nodeNumber]

@[simp] theorem adopt_frame (k : AdoptionKind) (p o x : Nat) (s : State) :
    (adopt k p o x s).clock = s.clock ∧ (adopt k p o x s).nodeStraps = s.nodeStraps ∧
      (adopt k p o x s).addressOffset = s.addressOffset ∧ (adopt k p o x s).cfg = s.cfg ∧
      (adopt k p o x s).pulse = s.pulse ∧ (adopt k p o x s).sensor = s.sensor ∧ (adopt k p o x s).conv = s.conv ∧
      (adopt k p o x s).tally = s.tally ∧ (adopt k p o x s).peers = s.peers ∧ (adopt k p o x s).filter = s.filter ∧
      (adopt k p o x s).port = s.port ∧ (adopt k p o x s).pending = s.pending ∧ (adopt k p o x s).choices = s.choices := by
  unfold adopt
  simp

@[simp] theorem adopt_reads (k : AdoptionKind) (p o x : Nat) (s : State) :
    (adopt k p o x s).nodeNumber = s.nodeNumber := by
  simp [State.nodeNumber]

@[simp] theorem surrender_frame (s : State) :
    (surrender s).clock = s.clock ∧ (surrender s).nodeStraps = s.nodeStraps ∧
      (surrender s).addressOffset = s.addressOffset ∧ (surrender s).cfg = s.cfg ∧ (surrender s).pulse = s.pulse ∧
      (surrender s).sensor = s.sensor ∧ (surrender s).conv = s.conv ∧ (surrender s).tally = s.tally ∧
      (surrender s).peers = s.peers ∧ (surrender s).filter = s.filter ∧ (surrender s).port = s.port ∧
      (surrender s).pending = s.pending ∧ (surrender s).choices = s.choices := by
  unfold surrender
  simp

@[simp] theorem surrender_reads (s : State) :
    (surrender s).nodeNumber = s.nodeNumber := by
  simp [State.nodeNumber]

@[simp] theorem addDelivered_frame (x : Nat) (s : State) :
    (addDelivered x s).clock = s.clock ∧ (addDelivered x s).nodeStraps = s.nodeStraps ∧
      (addDelivered x s).addressOffset = s.addressOffset ∧ (addDelivered x s).cfg = s.cfg ∧
      (addDelivered x s).pulse = s.pulse ∧ (addDelivered x s).sensor = s.sensor ∧ (addDelivered x s).conv = s.conv ∧
      (addDelivered x s).tally = s.tally ∧ (addDelivered x s).peers = s.peers ∧ (addDelivered x s).dose = s.dose ∧
      (addDelivered x s).pump = s.pump ∧ (addDelivered x s).store = s.store ∧ (addDelivered x s).port = s.port ∧
      (addDelivered x s).alarm = s.alarm ∧ (addDelivered x s).pending = s.pending ∧
      (addDelivered x s).choices = s.choices := by
  unfold addDelivered
  simp

@[simp] theorem addDelivered_reads (x : Nat) (s : State) :
    (∀ z, (addDelivered x s).isTrue z = s.isTrue z) ∧
      (∀ z, (addDelivered x s).isLatched z = s.isLatched z) ∧
      (addDelivered x s).nodeNumber = s.nodeNumber ∧
      (addDelivered x s).advertised = s.advertised := by
  simp [State.isTrue, State.isLatched, State.nodeNumber, State.advertised]

@[simp] theorem addHeader_frame (v : Nat) (s : State) :
    (addHeader v s).clock = s.clock ∧ (addHeader v s).nodeStraps = s.nodeStraps ∧
      (addHeader v s).addressOffset = s.addressOffset ∧ (addHeader v s).cfg = s.cfg ∧
      (addHeader v s).pulse = s.pulse ∧ (addHeader v s).sensor = s.sensor ∧ (addHeader v s).conv = s.conv ∧
      (addHeader v s).tally = s.tally ∧ (addHeader v s).peers = s.peers ∧ (addHeader v s).dose = s.dose ∧
      (addHeader v s).pump = s.pump ∧ (addHeader v s).port = s.port ∧ (addHeader v s).alarm = s.alarm ∧
      (addHeader v s).pending = s.pending ∧ (addHeader v s).choices = s.choices := by
  unfold addHeader
  simp

@[simp] theorem addHeader_reads (v : Nat) (s : State) :
    (∀ z, (addHeader v s).isTrue z = s.isTrue z) ∧
      (∀ z, (addHeader v s).isLatched z = s.isLatched z) ∧
      (addHeader v s).nodeNumber = s.nodeNumber ∧
      (addHeader v s).advertised = s.advertised := by
  simp [State.isTrue, State.isLatched, State.nodeNumber, State.advertised]

@[simp] theorem debit_frame (s : State) :
    (debit s).clock = s.clock ∧ (debit s).nodeStraps = s.nodeStraps ∧ (debit s).addressOffset = s.addressOffset ∧
      (debit s).cfg = s.cfg ∧ (debit s).pulse = s.pulse ∧ (debit s).sensor = s.sensor ∧ (debit s).conv = s.conv ∧
      (debit s).tally = s.tally ∧ (debit s).peers = s.peers ∧ (debit s).port = s.port ∧
      (debit s).pending = s.pending ∧ (debit s).choices = s.choices := by
  unfold debit
  simp

@[simp] theorem debit_reads (s : State) :
    (debit s).nodeNumber = s.nodeNumber := by
  simp [State.nodeNumber]


/-! ## The start of a stroke -/

@[simp] theorem beginStroke_frame (s : State) :
    (beginStroke s).clock = s.clock ∧ (beginStroke s).nodeStraps = s.nodeStraps ∧
      (beginStroke s).addressOffset = s.addressOffset ∧ (beginStroke s).cfg = s.cfg ∧
      (beginStroke s).pulse = s.pulse ∧ (beginStroke s).sensor = s.sensor ∧ (beginStroke s).conv = s.conv ∧
      (beginStroke s).tally = s.tally ∧ (beginStroke s).peers = s.peers ∧ (beginStroke s).dose = s.dose ∧
      (beginStroke s).filter = s.filter ∧ (beginStroke s).store = s.store ∧ (beginStroke s).port = s.port ∧
      (beginStroke s).alarm = s.alarm ∧ (beginStroke s).pending = s.pending ∧ (beginStroke s).choices = s.choices := by
  unfold beginStroke
  simp

@[simp] theorem beginStroke_reads (s : State) :
    (∀ z, (beginStroke s).isTrue z = s.isTrue z) ∧
      (∀ z, (beginStroke s).isLatched z = s.isLatched z) ∧
      (beginStroke s).nodeNumber = s.nodeNumber := by
  simp [State.isTrue, State.isLatched, State.nodeNumber]

@[simp] theorem testStart_frame (s : State) :
    (testStart s).clock = s.clock ∧ (testStart s).nodeStraps = s.nodeStraps ∧
      (testStart s).addressOffset = s.addressOffset ∧ (testStart s).cfg = s.cfg ∧ (testStart s).pulse = s.pulse ∧
      (testStart s).sensor = s.sensor ∧ (testStart s).conv = s.conv ∧ (testStart s).tally = s.tally ∧
      (testStart s).peers = s.peers ∧ (testStart s).dose = s.dose ∧ (testStart s).filter = s.filter ∧
      (testStart s).store = s.store ∧ (testStart s).port = s.port ∧ (testStart s).alarm = s.alarm ∧
      (testStart s).pending = s.pending ∧ (testStart s).choices = s.choices := by
  unfold testStart
  (repeat' split) <;> simp

@[simp] theorem testStart_reads (s : State) :
    (∀ z, (testStart s).isTrue z = s.isTrue z) ∧
      (∀ z, (testStart s).isLatched z = s.isLatched z) ∧
      (testStart s).nodeNumber = s.nodeNumber := by
  simp [State.isTrue, State.isLatched, State.nodeNumber]

@[simp] theorem startIfChanged_frame (b : State) (s : State) :
    (startIfChanged b s).clock = s.clock ∧ (startIfChanged b s).nodeStraps = s.nodeStraps ∧
      (startIfChanged b s).addressOffset = s.addressOffset ∧ (startIfChanged b s).cfg = s.cfg ∧
      (startIfChanged b s).pulse = s.pulse ∧ (startIfChanged b s).sensor = s.sensor ∧
      (startIfChanged b s).conv = s.conv ∧ (startIfChanged b s).tally = s.tally ∧
      (startIfChanged b s).peers = s.peers ∧ (startIfChanged b s).dose = s.dose ∧
      (startIfChanged b s).filter = s.filter ∧ (startIfChanged b s).store = s.store ∧
      (startIfChanged b s).port = s.port ∧ (startIfChanged b s).alarm = s.alarm ∧
      (startIfChanged b s).pending = s.pending ∧ (startIfChanged b s).choices = s.choices := by
  unfold startIfChanged
  (repeat' split) <;> simp

@[simp] theorem startIfChanged_reads (b : State) (s : State) :
    (∀ z, (startIfChanged b s).isTrue z = s.isTrue z) ∧
      (∀ z, (startIfChanged b s).isLatched z = s.isLatched z) ∧
      (startIfChanged b s).nodeNumber = s.nodeNumber := by
  simp [State.isTrue, State.isLatched, State.nodeNumber]


/-! ## Modes -/

@[simp] theorem setMode_frame (m : Mode) (s : State) :
    (setMode m s).clock = s.clock ∧ (setMode m s).nodeStraps = s.nodeStraps ∧
      (setMode m s).addressOffset = s.addressOffset ∧ (setMode m s).cfg = s.cfg ∧ (setMode m s).pulse = s.pulse ∧
      (setMode m s).sensor = s.sensor ∧ (setMode m s).conv = s.conv ∧ (setMode m s).tally = s.tally ∧
      (setMode m s).dose = s.dose ∧ (setMode m s).pump = s.pump ∧ (setMode m s).filter = s.filter ∧
      (setMode m s).port = s.port ∧ (setMode m s).pending = s.pending ∧ (setMode m s).choices = s.choices := by
  unfold setMode
  simp

@[simp] theorem setMode_reads (m : Mode) (s : State) :
    (setMode m s).nodeNumber = s.nodeNumber ∧
      (setMode m s).advertised = s.advertised := by
  simp [State.nodeNumber, State.advertised]

@[simp] theorem leaveShared_frame (c : SoloCause) (s : State) :
    (leaveShared c s).clock = s.clock ∧ (leaveShared c s).nodeStraps = s.nodeStraps ∧
      (leaveShared c s).addressOffset = s.addressOffset ∧ (leaveShared c s).cfg = s.cfg ∧
      (leaveShared c s).pulse = s.pulse ∧ (leaveShared c s).sensor = s.sensor ∧ (leaveShared c s).conv = s.conv ∧
      (leaveShared c s).tally = s.tally ∧ (leaveShared c s).filter = s.filter ∧ (leaveShared c s).port = s.port ∧
      (leaveShared c s).pending = s.pending ∧ (leaveShared c s).choices = s.choices := by
  unfold leaveShared
  simp

@[simp] theorem leaveShared_reads (c : SoloCause) (s : State) :
    (leaveShared c s).nodeNumber = s.nodeNumber := by
  simp [State.nodeNumber]

@[simp] theorem aloneIfNone_frame (s : State) :
    (aloneIfNone s).clock = s.clock ∧ (aloneIfNone s).nodeStraps = s.nodeStraps ∧
      (aloneIfNone s).addressOffset = s.addressOffset ∧ (aloneIfNone s).cfg = s.cfg ∧
      (aloneIfNone s).pulse = s.pulse ∧ (aloneIfNone s).sensor = s.sensor ∧ (aloneIfNone s).conv = s.conv ∧
      (aloneIfNone s).tally = s.tally ∧ (aloneIfNone s).filter = s.filter ∧ (aloneIfNone s).port = s.port ∧
      (aloneIfNone s).pending = s.pending ∧ (aloneIfNone s).choices = s.choices := by
  unfold aloneIfNone
  (repeat' split) <;> simp

@[simp] theorem aloneIfNone_reads (s : State) :
    (aloneIfNone s).nodeNumber = s.nodeNumber := by
  simp [State.nodeNumber]

@[simp] theorem noteLiveCount_frame (s : State) :
    (noteLiveCount s).clock = s.clock ∧ (noteLiveCount s).nodeStraps = s.nodeStraps ∧
      (noteLiveCount s).addressOffset = s.addressOffset ∧ (noteLiveCount s).cfg = s.cfg ∧
      (noteLiveCount s).pulse = s.pulse ∧ (noteLiveCount s).sensor = s.sensor ∧ (noteLiveCount s).conv = s.conv ∧
      (noteLiveCount s).tally = s.tally ∧ (noteLiveCount s).peers = s.peers ∧ (noteLiveCount s).dose = s.dose ∧
      (noteLiveCount s).pump = s.pump ∧ (noteLiveCount s).filter = s.filter ∧ (noteLiveCount s).port = s.port ∧
      (noteLiveCount s).alarm = s.alarm ∧ (noteLiveCount s).pending = s.pending ∧
      (noteLiveCount s).choices = s.choices := by
  unfold noteLiveCount
  simp

@[simp] theorem noteLiveCount_reads (s : State) :
    (∀ z, (noteLiveCount s).isTrue z = s.isTrue z) ∧
      (∀ z, (noteLiveCount s).isLatched z = s.isLatched z) ∧
      (noteLiveCount s).nodeNumber = s.nodeNumber ∧
      (noteLiveCount s).advertised = s.advertised := by
  simp [State.isTrue, State.isLatched, State.nodeNumber, State.advertised]

@[simp] theorem setSwitchPending_frame (v : Bool) (s : State) :
    (setSwitchPending v s).clock = s.clock ∧ (setSwitchPending v s).nodeStraps = s.nodeStraps ∧
      (setSwitchPending v s).addressOffset = s.addressOffset ∧ (setSwitchPending v s).cfg = s.cfg ∧
      (setSwitchPending v s).pulse = s.pulse ∧ (setSwitchPending v s).sensor = s.sensor ∧
      (setSwitchPending v s).conv = s.conv ∧ (setSwitchPending v s).tally = s.tally ∧
      (setSwitchPending v s).dose = s.dose ∧ (setSwitchPending v s).pump = s.pump ∧
      (setSwitchPending v s).filter = s.filter ∧ (setSwitchPending v s).store = s.store ∧
      (setSwitchPending v s).port = s.port ∧ (setSwitchPending v s).alarm = s.alarm ∧
      (setSwitchPending v s).pending = s.pending ∧ (setSwitchPending v s).choices = s.choices := by
  unfold setSwitchPending
  simp

@[simp] theorem setSwitchPending_reads (v : Bool) (s : State) :
    (∀ z, (setSwitchPending v s).isTrue z = s.isTrue z) ∧
      (∀ z, (setSwitchPending v s).isLatched z = s.isLatched z) ∧
      (setSwitchPending v s).nodeNumber = s.nodeNumber ∧
      (setSwitchPending v s).advertised = s.advertised := by
  simp [State.isTrue, State.isLatched, State.nodeNumber, State.advertised]


/-! ## Tally Line Interface -/

@[simp] theorem makePending_frame (f : Frame) (s : State) :
    (makePending f s).clock = s.clock ∧ (makePending f s).nodeStraps = s.nodeStraps ∧
      (makePending f s).addressOffset = s.addressOffset ∧ (makePending f s).cfg = s.cfg ∧
      (makePending f s).pulse = s.pulse ∧ (makePending f s).sensor = s.sensor ∧ (makePending f s).conv = s.conv ∧
      (makePending f s).peers = s.peers ∧ (makePending f s).dose = s.dose ∧ (makePending f s).pump = s.pump ∧
      (makePending f s).filter = s.filter ∧ (makePending f s).store = s.store ∧ (makePending f s).port = s.port ∧
      (makePending f s).alarm = s.alarm ∧ (makePending f s).pending = s.pending ∧
      (makePending f s).choices = s.choices := by
  unfold makePending
  simp

@[simp] theorem makePending_reads (f : Frame) (s : State) :
    (∀ z, (makePending f s).isTrue z = s.isTrue z) ∧
      (∀ z, (makePending f s).isLatched z = s.isLatched z) ∧
      (makePending f s).nodeNumber = s.nodeNumber ∧
      (makePending f s).advertised = s.advertised := by
  simp [State.isTrue, State.isLatched, State.nodeNumber, State.advertised]

@[simp] theorem build_frame (k : Owed) (s : State) :
    (build k s).clock = s.clock ∧ (build k s).nodeStraps = s.nodeStraps ∧
      (build k s).addressOffset = s.addressOffset ∧ (build k s).cfg = s.cfg ∧ (build k s).pulse = s.pulse ∧
      (build k s).sensor = s.sensor ∧ (build k s).conv = s.conv ∧ (build k s).peers = s.peers ∧
      (build k s).dose = s.dose ∧ (build k s).pump = s.pump ∧ (build k s).filter = s.filter ∧
      (build k s).store = s.store ∧ (build k s).port = s.port ∧ (build k s).alarm = s.alarm ∧
      (build k s).pending = s.pending ∧ (build k s).choices = s.choices := by
  unfold build
  (repeat' split) <;> simp

@[simp] theorem build_reads (k : Owed) (s : State) :
    (∀ z, (build k s).isTrue z = s.isTrue z) ∧
      (∀ z, (build k s).isLatched z = s.isLatched z) ∧
      (build k s).nodeNumber = s.nodeNumber ∧
      (build k s).advertised = s.advertised := by
  simp [State.isTrue, State.isLatched, State.nodeNumber, State.advertised]

@[simp] theorem testLinkFault_frame (s : State) :
    (testLinkFault s).clock = s.clock ∧ (testLinkFault s).nodeStraps = s.nodeStraps ∧
      (testLinkFault s).addressOffset = s.addressOffset ∧ (testLinkFault s).cfg = s.cfg ∧
      (testLinkFault s).pulse = s.pulse ∧ (testLinkFault s).sensor = s.sensor ∧ (testLinkFault s).conv = s.conv ∧
      (testLinkFault s).tally = s.tally ∧ (testLinkFault s).peers = s.peers ∧ (testLinkFault s).dose = s.dose ∧
      (testLinkFault s).pump = s.pump ∧ (testLinkFault s).filter = s.filter ∧ (testLinkFault s).store = s.store ∧
      (testLinkFault s).port = s.port ∧ (testLinkFault s).pending = s.pending ∧ (testLinkFault s).choices = s.choices := by
  unfold testLinkFault
  simp

@[simp] theorem testLinkFault_reads (s : State) :
    (testLinkFault s).nodeNumber = s.nodeNumber ∧
      (testLinkFault s).advertised = s.advertised := by
  simp [State.nodeNumber, State.advertised]

@[simp] theorem countAbandoned_frame (r : Bool) (s : State) :
    (countAbandoned r s).clock = s.clock ∧ (countAbandoned r s).nodeStraps = s.nodeStraps ∧
      (countAbandoned r s).addressOffset = s.addressOffset ∧ (countAbandoned r s).cfg = s.cfg ∧
      (countAbandoned r s).pulse = s.pulse ∧ (countAbandoned r s).sensor = s.sensor ∧
      (countAbandoned r s).conv = s.conv ∧ (countAbandoned r s).peers = s.peers ∧
      (countAbandoned r s).dose = s.dose ∧ (countAbandoned r s).pump = s.pump ∧
      (countAbandoned r s).filter = s.filter ∧ (countAbandoned r s).store = s.store ∧
      (countAbandoned r s).port = s.port ∧ (countAbandoned r s).pending = s.pending ∧
      (countAbandoned r s).choices = s.choices := by
  unfold countAbandoned
  simp

@[simp] theorem countAbandoned_reads (r : Bool) (s : State) :
    (countAbandoned r s).nodeNumber = s.nodeNumber ∧
      (countAbandoned r s).advertised = s.advertised := by
  simp [State.nodeNumber, State.advertised]

@[simp] theorem fallDue_frame (k : Owed) (s : State) :
    (fallDue k s).clock = s.clock ∧ (fallDue k s).nodeStraps = s.nodeStraps ∧
      (fallDue k s).addressOffset = s.addressOffset ∧ (fallDue k s).cfg = s.cfg ∧ (fallDue k s).pulse = s.pulse ∧
      (fallDue k s).sensor = s.sensor ∧ (fallDue k s).conv = s.conv ∧ (fallDue k s).peers = s.peers ∧
      (fallDue k s).dose = s.dose ∧ (fallDue k s).pump = s.pump ∧ (fallDue k s).filter = s.filter ∧
      (fallDue k s).store = s.store ∧ (fallDue k s).port = s.port ∧ (fallDue k s).pending = s.pending ∧
      (fallDue k s).choices = s.choices := by
  unfold fallDue
  (repeat' split) <;> simp

@[simp] theorem fallDue_reads (k : Owed) (s : State) :
    (fallDue k s).nodeNumber = s.nodeNumber ∧
      (fallDue k s).advertised = s.advertised := by
  simp [State.nodeNumber, State.advertised]

@[simp] theorem silence_frame (s : State) :
    (silence s).clock = s.clock ∧ (silence s).nodeStraps = s.nodeStraps ∧
      (silence s).addressOffset = s.addressOffset ∧ (silence s).cfg = s.cfg ∧ (silence s).pulse = s.pulse ∧
      (silence s).sensor = s.sensor ∧ (silence s).conv = s.conv ∧ (silence s).peers = s.peers ∧
      (silence s).dose = s.dose ∧ (silence s).pump = s.pump ∧ (silence s).filter = s.filter ∧
      (silence s).store = s.store ∧ (silence s).port = s.port ∧ (silence s).alarm = s.alarm ∧
      (silence s).pending = s.pending ∧ (silence s).choices = s.choices := by
  unfold silence
  simp

@[simp] theorem silence_reads (s : State) :
    (∀ z, (silence s).isTrue z = s.isTrue z) ∧
      (∀ z, (silence s).isLatched z = s.isLatched z) ∧
      (silence s).nodeNumber = s.nodeNumber ∧
      (silence s).advertised = s.advertised := by
  simp [State.isTrue, State.isLatched, State.nodeNumber, State.advertised]

@[simp] theorem buildOwed_frame (s : State) :
    (buildOwed s).clock = s.clock ∧ (buildOwed s).nodeStraps = s.nodeStraps ∧
      (buildOwed s).addressOffset = s.addressOffset ∧ (buildOwed s).cfg = s.cfg ∧ (buildOwed s).pulse = s.pulse ∧
      (buildOwed s).sensor = s.sensor ∧ (buildOwed s).conv = s.conv ∧ (buildOwed s).peers = s.peers ∧
      (buildOwed s).dose = s.dose ∧ (buildOwed s).pump = s.pump ∧ (buildOwed s).filter = s.filter ∧
      (buildOwed s).store = s.store ∧ (buildOwed s).port = s.port ∧ (buildOwed s).alarm = s.alarm ∧
      (buildOwed s).pending = s.pending ∧ (buildOwed s).choices = s.choices := by
  unfold buildOwed
  simp

@[simp] theorem buildOwed_reads (s : State) :
    (∀ z, (buildOwed s).isTrue z = s.isTrue z) ∧
      (∀ z, (buildOwed s).isLatched z = s.isLatched z) ∧
      (buildOwed s).nodeNumber = s.nodeNumber ∧
      (buildOwed s).advertised = s.advertised := by
  simp [State.isTrue, State.isLatched, State.nodeNumber, State.advertised]

@[simp] theorem switchToShared_frame (d : BitVec 32) (s : State) :
    (switchToShared d s).clock = s.clock ∧ (switchToShared d s).nodeStraps = s.nodeStraps ∧
      (switchToShared d s).addressOffset = s.addressOffset ∧ (switchToShared d s).cfg = s.cfg ∧
      (switchToShared d s).pulse = s.pulse ∧ (switchToShared d s).sensor = s.sensor ∧
      (switchToShared d s).conv = s.conv ∧ (switchToShared d s).tally = s.tally ∧
      (switchToShared d s).filter = s.filter ∧ (switchToShared d s).port = s.port ∧
      (switchToShared d s).pending = s.pending ∧ (switchToShared d s).choices = s.choices := by
  unfold switchToShared
  simp

@[simp] theorem switchToShared_reads (d : BitVec 32) (s : State) :
    (switchToShared d s).nodeNumber = s.nodeNumber := by
  simp [State.nodeNumber]

@[simp] theorem reportSent_frame (p : Pending) (s : State) :
    (reportSent p s).clock = s.clock ∧ (reportSent p s).nodeStraps = s.nodeStraps ∧
      (reportSent p s).addressOffset = s.addressOffset ∧ (reportSent p s).cfg = s.cfg ∧
      (reportSent p s).pulse = s.pulse ∧ (reportSent p s).sensor = s.sensor ∧ (reportSent p s).conv = s.conv ∧
      (reportSent p s).tally = s.tally ∧ (reportSent p s).filter = s.filter ∧ (reportSent p s).port = s.port ∧
      (reportSent p s).pending = s.pending ∧ (reportSent p s).choices = s.choices := by
  unfold reportSent
  (repeat' split) <;> simp

@[simp] theorem reportSent_reads (p : Pending) (s : State) :
    (reportSent p s).nodeNumber = s.nodeNumber := by
  simp [State.nodeNumber]

@[simp] theorem loseAttempt_frame (s : State) :
    (loseAttempt s).clock = s.clock ∧ (loseAttempt s).nodeStraps = s.nodeStraps ∧
      (loseAttempt s).addressOffset = s.addressOffset ∧ (loseAttempt s).cfg = s.cfg ∧
      (loseAttempt s).pulse = s.pulse ∧ (loseAttempt s).sensor = s.sensor ∧ (loseAttempt s).conv = s.conv ∧
      (loseAttempt s).peers = s.peers ∧ (loseAttempt s).dose = s.dose ∧ (loseAttempt s).pump = s.pump ∧
      (loseAttempt s).filter = s.filter ∧ (loseAttempt s).store = s.store ∧ (loseAttempt s).port = s.port ∧
      (loseAttempt s).pending = s.pending ∧ (loseAttempt s).choices = s.choices := by
  unfold loseAttempt
  (repeat' split) <;> simp

@[simp] theorem loseAttempt_reads (s : State) :
    (loseAttempt s).nodeNumber = s.nodeNumber ∧
      (loseAttempt s).advertised = s.advertised := by
  simp [State.nodeNumber, State.advertised]

@[simp] theorem abandonFrame_frame (s : State) :
    (abandonFrame s).clock = s.clock ∧ (abandonFrame s).nodeStraps = s.nodeStraps ∧
      (abandonFrame s).addressOffset = s.addressOffset ∧ (abandonFrame s).cfg = s.cfg ∧
      (abandonFrame s).pulse = s.pulse ∧ (abandonFrame s).sensor = s.sensor ∧ (abandonFrame s).conv = s.conv ∧
      (abandonFrame s).peers = s.peers ∧ (abandonFrame s).dose = s.dose ∧ (abandonFrame s).pump = s.pump ∧
      (abandonFrame s).filter = s.filter ∧ (abandonFrame s).store = s.store ∧ (abandonFrame s).port = s.port ∧
      (abandonFrame s).pending = s.pending ∧ (abandonFrame s).choices = s.choices := by
  unfold abandonFrame
  simp

@[simp] theorem abandonFrame_reads (s : State) :
    (abandonFrame s).nodeNumber = s.nodeNumber ∧
      (abandonFrame s).advertised = s.advertised := by
  simp [State.nodeNumber, State.advertised]

@[simp] theorem frameIsSent_frame (p : Pending) (s : State) :
    (frameIsSent p s).clock = s.clock ∧ (frameIsSent p s).nodeStraps = s.nodeStraps ∧
      (frameIsSent p s).addressOffset = s.addressOffset ∧ (frameIsSent p s).cfg = s.cfg ∧
      (frameIsSent p s).pulse = s.pulse ∧ (frameIsSent p s).sensor = s.sensor ∧ (frameIsSent p s).conv = s.conv ∧
      (frameIsSent p s).filter = s.filter ∧ (frameIsSent p s).port = s.port ∧ (frameIsSent p s).pending = s.pending ∧
      (frameIsSent p s).choices = s.choices := by
  unfold frameIsSent
  simp

@[simp] theorem frameIsSent_reads (p : Pending) (s : State) :
    (frameIsSent p s).nodeNumber = s.nodeNumber := by
  simp [State.nodeNumber]


/-! ## Sensor Bus Master -/

@[simp] theorem setTransmitter_frame (q : Quantity) (t : Transmitter) (s : State) :
    (setTransmitter q t s).clock = s.clock ∧ (setTransmitter q t s).nodeStraps = s.nodeStraps ∧
      (setTransmitter q t s).addressOffset = s.addressOffset ∧ (setTransmitter q t s).cfg = s.cfg ∧
      (setTransmitter q t s).pulse = s.pulse ∧ (setTransmitter q t s).conv = s.conv ∧
      (setTransmitter q t s).tally = s.tally ∧ (setTransmitter q t s).peers = s.peers ∧
      (setTransmitter q t s).dose = s.dose ∧ (setTransmitter q t s).pump = s.pump ∧
      (setTransmitter q t s).filter = s.filter ∧ (setTransmitter q t s).store = s.store ∧
      (setTransmitter q t s).port = s.port ∧ (setTransmitter q t s).alarm = s.alarm ∧
      (setTransmitter q t s).pending = s.pending ∧ (setTransmitter q t s).choices = s.choices := by
  unfold setTransmitter
  simp

@[simp] theorem setTransmitter_reads (q : Quantity) (t : Transmitter) (s : State) :
    (∀ z, (setTransmitter q t s).isTrue z = s.isTrue z) ∧
      (∀ z, (setTransmitter q t s).isLatched z = s.isLatched z) ∧
      (setTransmitter q t s).nodeNumber = s.nodeNumber ∧
      (setTransmitter q t s).advertised = s.advertised := by
  simp [State.isTrue, State.isLatched, State.nodeNumber, State.advertised]

@[simp] theorem beginTransaction_frame (q : Quantity) (s : State) :
    (beginTransaction q s).clock = s.clock ∧ (beginTransaction q s).nodeStraps = s.nodeStraps ∧
      (beginTransaction q s).addressOffset = s.addressOffset ∧ (beginTransaction q s).cfg = s.cfg ∧
      (beginTransaction q s).pulse = s.pulse ∧ (beginTransaction q s).conv = s.conv ∧
      (beginTransaction q s).tally = s.tally ∧ (beginTransaction q s).peers = s.peers ∧
      (beginTransaction q s).dose = s.dose ∧ (beginTransaction q s).pump = s.pump ∧
      (beginTransaction q s).filter = s.filter ∧ (beginTransaction q s).store = s.store ∧
      (beginTransaction q s).port = s.port ∧ (beginTransaction q s).alarm = s.alarm ∧
      (beginTransaction q s).pending = s.pending ∧ (beginTransaction q s).choices = s.choices := by
  unfold beginTransaction
  simp

@[simp] theorem beginTransaction_reads (q : Quantity) (s : State) :
    (∀ z, (beginTransaction q s).isTrue z = s.isTrue z) ∧
      (∀ z, (beginTransaction q s).isLatched z = s.isLatched z) ∧
      (beginTransaction q s).nodeNumber = s.nodeNumber ∧
      (beginTransaction q s).advertised = s.advertised := by
  simp [State.isTrue, State.isLatched, State.nodeNumber, State.advertised]

@[simp] theorem endTransaction_frame (q : Quantity) (s : State) :
    (endTransaction q s).clock = s.clock ∧ (endTransaction q s).nodeStraps = s.nodeStraps ∧
      (endTransaction q s).addressOffset = s.addressOffset ∧ (endTransaction q s).cfg = s.cfg ∧
      (endTransaction q s).pulse = s.pulse ∧ (endTransaction q s).conv = s.conv ∧
      (endTransaction q s).tally = s.tally ∧ (endTransaction q s).peers = s.peers ∧
      (endTransaction q s).dose = s.dose ∧ (endTransaction q s).pump = s.pump ∧
      (endTransaction q s).filter = s.filter ∧ (endTransaction q s).store = s.store ∧
      (endTransaction q s).port = s.port ∧ (endTransaction q s).alarm = s.alarm ∧
      (endTransaction q s).pending = s.pending ∧ (endTransaction q s).choices = s.choices := by
  unfold endTransaction
  (repeat' split) <;> simp

@[simp] theorem endTransaction_reads (q : Quantity) (s : State) :
    (∀ z, (endTransaction q s).isTrue z = s.isTrue z) ∧
      (∀ z, (endTransaction q s).isLatched z = s.isLatched z) ∧
      (endTransaction q s).nodeNumber = s.nodeNumber ∧
      (endTransaction q s).advertised = s.advertised := by
  simp [State.isTrue, State.isLatched, State.nodeNumber, State.advertised]

@[simp] theorem recordFailure_frame (q : Quantity) (c : FailCause) (s : State) :
    (recordFailure q c s).clock = s.clock ∧ (recordFailure q c s).nodeStraps = s.nodeStraps ∧
      (recordFailure q c s).addressOffset = s.addressOffset ∧ (recordFailure q c s).cfg = s.cfg ∧
      (recordFailure q c s).pulse = s.pulse ∧ (recordFailure q c s).conv = s.conv ∧
      (recordFailure q c s).tally = s.tally ∧ (recordFailure q c s).peers = s.peers ∧
      (recordFailure q c s).dose = s.dose ∧ (recordFailure q c s).pump = s.pump ∧
      (recordFailure q c s).filter = s.filter ∧ (recordFailure q c s).store = s.store ∧
      (recordFailure q c s).port = s.port ∧ (recordFailure q c s).alarm = s.alarm ∧
      (recordFailure q c s).pending = s.pending ∧ (recordFailure q c s).choices = s.choices := by
  unfold recordFailure
  simp

@[simp] theorem recordFailure_reads (q : Quantity) (c : FailCause) (s : State) :
    (∀ z, (recordFailure q c s).isTrue z = s.isTrue z) ∧
      (∀ z, (recordFailure q c s).isLatched z = s.isLatched z) ∧
      (recordFailure q c s).nodeNumber = s.nodeNumber ∧
      (recordFailure q c s).advertised = s.advertised := by
  simp [State.isTrue, State.isLatched, State.nodeNumber, State.advertised]

@[simp] theorem enterRecovery_frame (q : Quantity) (c : FailCause) (s : State) :
    (enterRecovery q c s).clock = s.clock ∧ (enterRecovery q c s).nodeStraps = s.nodeStraps ∧
      (enterRecovery q c s).addressOffset = s.addressOffset ∧ (enterRecovery q c s).cfg = s.cfg ∧
      (enterRecovery q c s).pulse = s.pulse ∧ (enterRecovery q c s).conv = s.conv ∧
      (enterRecovery q c s).tally = s.tally ∧ (enterRecovery q c s).peers = s.peers ∧
      (enterRecovery q c s).dose = s.dose ∧ (enterRecovery q c s).pump = s.pump ∧
      (enterRecovery q c s).filter = s.filter ∧ (enterRecovery q c s).store = s.store ∧
      (enterRecovery q c s).port = s.port ∧ (enterRecovery q c s).alarm = s.alarm ∧
      (enterRecovery q c s).pending = s.pending ∧ (enterRecovery q c s).choices = s.choices := by
  unfold enterRecovery
  simp

@[simp] theorem enterRecovery_reads (q : Quantity) (c : FailCause) (s : State) :
    (∀ z, (enterRecovery q c s).isTrue z = s.isTrue z) ∧
      (∀ z, (enterRecovery q c s).isLatched z = s.isLatched z) ∧
      (enterRecovery q c s).nodeNumber = s.nodeNumber ∧
      (enterRecovery q c s).advertised = s.advertised := by
  simp [State.isTrue, State.isLatched, State.nodeNumber, State.advertised]

@[simp] theorem pollDue_frame (s : State) :
    (pollDue s).clock = s.clock ∧ (pollDue s).nodeStraps = s.nodeStraps ∧
      (pollDue s).addressOffset = s.addressOffset ∧ (pollDue s).cfg = s.cfg ∧ (pollDue s).pulse = s.pulse ∧
      (pollDue s).conv = s.conv ∧ (pollDue s).tally = s.tally ∧ (pollDue s).peers = s.peers ∧
      (pollDue s).dose = s.dose ∧ (pollDue s).pump = s.pump ∧ (pollDue s).filter = s.filter ∧
      (pollDue s).store = s.store ∧ (pollDue s).port = s.port ∧ (pollDue s).alarm = s.alarm ∧
      (pollDue s).pending = s.pending ∧ (pollDue s).choices = s.choices := by
  unfold pollDue
  (repeat' split) <;> simp

@[simp] theorem pollDue_reads (s : State) :
    (∀ z, (pollDue s).isTrue z = s.isTrue z) ∧
      (∀ z, (pollDue s).isLatched z = s.isLatched z) ∧
      (pollDue s).nodeNumber = s.nodeNumber ∧
      (pollDue s).advertised = s.advertised := by
  simp [State.isTrue, State.isLatched, State.nodeNumber, State.advertised]

@[simp] theorem storeGood_frame (q : Quantity) (v : Nat) (s : State) :
    (storeGood q v s).clock = s.clock ∧ (storeGood q v s).nodeStraps = s.nodeStraps ∧
      (storeGood q v s).addressOffset = s.addressOffset ∧ (storeGood q v s).cfg = s.cfg ∧
      (storeGood q v s).pulse = s.pulse ∧ (storeGood q v s).conv = s.conv ∧ (storeGood q v s).tally = s.tally ∧
      (storeGood q v s).peers = s.peers ∧ (storeGood q v s).dose = s.dose ∧ (storeGood q v s).pump = s.pump ∧
      (storeGood q v s).filter = s.filter ∧ (storeGood q v s).store = s.store ∧ (storeGood q v s).port = s.port ∧
      (storeGood q v s).alarm = s.alarm ∧ (storeGood q v s).pending = s.pending ∧
      (storeGood q v s).choices = s.choices := by
  unfold storeGood
  simp

@[simp] theorem storeGood_reads (q : Quantity) (v : Nat) (s : State) :
    (∀ z, (storeGood q v s).isTrue z = s.isTrue z) ∧
      (∀ z, (storeGood q v s).isLatched z = s.isLatched z) ∧
      (storeGood q v s).nodeNumber = s.nodeNumber ∧
      (storeGood q v s).advertised = s.advertised := by
  simp [State.isTrue, State.isLatched, State.nodeNumber, State.advertised]

@[simp] theorem judgeBytes_frame (q : Quantity) (v : BitVec 24) (b : Byte) (s : State) :
    (judgeBytes q v b s).clock = s.clock ∧ (judgeBytes q v b s).nodeStraps = s.nodeStraps ∧
      (judgeBytes q v b s).addressOffset = s.addressOffset ∧ (judgeBytes q v b s).cfg = s.cfg ∧
      (judgeBytes q v b s).pulse = s.pulse ∧ (judgeBytes q v b s).conv = s.conv ∧
      (judgeBytes q v b s).tally = s.tally ∧ (judgeBytes q v b s).peers = s.peers ∧
      (judgeBytes q v b s).dose = s.dose ∧ (judgeBytes q v b s).pump = s.pump ∧
      (judgeBytes q v b s).filter = s.filter ∧ (judgeBytes q v b s).store = s.store ∧
      (judgeBytes q v b s).port = s.port ∧ (judgeBytes q v b s).alarm = s.alarm ∧
      (judgeBytes q v b s).pending = s.pending ∧ (judgeBytes q v b s).choices = s.choices := by
  unfold judgeBytes
  (repeat' split) <;> simp

@[simp] theorem judgeBytes_reads (q : Quantity) (v : BitVec 24) (b : Byte) (s : State) :
    (∀ z, (judgeBytes q v b s).isTrue z = s.isTrue z) ∧
      (∀ z, (judgeBytes q v b s).isLatched z = s.isLatched z) ∧
      (judgeBytes q v b s).nodeNumber = s.nodeNumber ∧
      (judgeBytes q v b s).advertised = s.advertised := by
  simp [State.isTrue, State.isLatched, State.nodeNumber, State.advertised]

@[simp] theorem reportGiven_frame (q : Quantity) (g : Given) (m : Bool) (s : State) :
    (reportGiven q g m s).clock = s.clock ∧ (reportGiven q g m s).nodeStraps = s.nodeStraps ∧
      (reportGiven q g m s).addressOffset = s.addressOffset ∧ (reportGiven q g m s).cfg = s.cfg ∧
      (reportGiven q g m s).pulse = s.pulse ∧ (reportGiven q g m s).sensor = s.sensor ∧
      (reportGiven q g m s).conv = s.conv ∧ (reportGiven q g m s).tally = s.tally ∧
      (reportGiven q g m s).peers = s.peers ∧ (reportGiven q g m s).dose = s.dose ∧
      (reportGiven q g m s).pump = s.pump ∧ (reportGiven q g m s).filter = s.filter ∧
      (reportGiven q g m s).port = s.port ∧ (reportGiven q g m s).pending = s.pending ∧
      (reportGiven q g m s).choices = s.choices := by
  unfold reportGiven
  simp

@[simp] theorem reportGiven_reads (q : Quantity) (g : Given) (m : Bool) (s : State) :
    (reportGiven q g m s).nodeNumber = s.nodeNumber ∧
      (reportGiven q g m s).advertised = s.advertised := by
  simp [State.nodeNumber, State.advertised]

@[simp] theorem giveValues_frame (s : State) :
    (giveValues s).clock = s.clock ∧ (giveValues s).nodeStraps = s.nodeStraps ∧
      (giveValues s).addressOffset = s.addressOffset ∧ (giveValues s).cfg = s.cfg ∧ (giveValues s).pulse = s.pulse ∧
      (giveValues s).conv = s.conv ∧ (giveValues s).tally = s.tally ∧ (giveValues s).peers = s.peers ∧
      (giveValues s).dose = s.dose ∧ (giveValues s).pump = s.pump ∧ (giveValues s).filter = s.filter ∧
      (giveValues s).port = s.port ∧ (giveValues s).pending = s.pending ∧ (giveValues s).choices = s.choices := by
  unfold giveValues
  simp

@[simp] theorem giveValues_reads (s : State) :
    (giveValues s).nodeNumber = s.nodeNumber ∧
      (giveValues s).advertised = s.advertised := by
  simp [State.nodeNumber, State.advertised]


/-! ## Pulse Counter and Conversion Unit -/

@[simp] theorem countA_frame (s : State) :
    (countA s).clock = s.clock ∧ (countA s).nodeStraps = s.nodeStraps ∧ (countA s).addressOffset = s.addressOffset ∧
      (countA s).cfg = s.cfg ∧ (countA s).sensor = s.sensor ∧ (countA s).conv = s.conv ∧ (countA s).tally = s.tally ∧
      (countA s).peers = s.peers ∧ (countA s).dose = s.dose ∧ (countA s).pump = s.pump ∧
      (countA s).filter = s.filter ∧ (countA s).store = s.store ∧ (countA s).port = s.port ∧
      (countA s).alarm = s.alarm ∧ (countA s).pending = s.pending ∧ (countA s).choices = s.choices := by
  unfold countA
  dsimp only
  (repeat' split) <;> simp

@[simp] theorem countA_reads (s : State) :
    (∀ z, (countA s).isTrue z = s.isTrue z) ∧
      (∀ z, (countA s).isLatched z = s.isLatched z) ∧
      (countA s).nodeNumber = s.nodeNumber ∧
      (countA s).advertised = s.advertised := by
  simp [State.isTrue, State.isLatched, State.nodeNumber, State.advertised]

@[simp] theorem countB_frame (s : State) :
    (countB s).clock = s.clock ∧ (countB s).nodeStraps = s.nodeStraps ∧ (countB s).addressOffset = s.addressOffset ∧
      (countB s).cfg = s.cfg ∧ (countB s).sensor = s.sensor ∧ (countB s).conv = s.conv ∧ (countB s).tally = s.tally ∧
      (countB s).peers = s.peers ∧ (countB s).dose = s.dose ∧ (countB s).pump = s.pump ∧
      (countB s).filter = s.filter ∧ (countB s).store = s.store ∧ (countB s).port = s.port ∧
      (countB s).alarm = s.alarm ∧ (countB s).pending = s.pending ∧ (countB s).choices = s.choices := by
  unfold countB
  dsimp only
  (repeat' split) <;> simp

@[simp] theorem countB_reads (s : State) :
    (∀ z, (countB s).isTrue z = s.isTrue z) ∧
      (∀ z, (countB s).isLatched z = s.isLatched z) ∧
      (countB s).nodeNumber = s.nodeNumber ∧
      (countB s).advertised = s.advertised := by
  simp [State.isTrue, State.isLatched, State.nodeNumber, State.advertised]

@[simp] theorem closeCycle_frame (s : State) :
    (closeCycle s).clock = s.clock ∧ (closeCycle s).nodeStraps = s.nodeStraps ∧
      (closeCycle s).addressOffset = s.addressOffset ∧ (closeCycle s).cfg = s.cfg ∧
      (closeCycle s).sensor = s.sensor ∧ (closeCycle s).conv = s.conv ∧ (closeCycle s).tally = s.tally ∧
      (closeCycle s).peers = s.peers ∧ (closeCycle s).dose = s.dose ∧ (closeCycle s).pump = s.pump ∧
      (closeCycle s).filter = s.filter ∧ (closeCycle s).port = s.port ∧ (closeCycle s).pending = s.pending ∧
      (closeCycle s).choices = s.choices := by
  unfold closeCycle
  simp

@[simp] theorem closeCycle_reads (s : State) :
    (closeCycle s).nodeNumber = s.nodeNumber ∧
      (closeCycle s).advertised = s.advertised := by
  simp [State.nodeNumber, State.advertised]

@[simp] theorem applyConversion_frame (k : ConversionRecord) (s : State) :
    (applyConversion k s).clock = s.clock ∧ (applyConversion k s).nodeStraps = s.nodeStraps ∧
      (applyConversion k s).addressOffset = s.addressOffset ∧ (applyConversion k s).cfg = s.cfg ∧
      (applyConversion k s).pulse = s.pulse ∧ (applyConversion k s).sensor = s.sensor ∧
      (applyConversion k s).tally = s.tally ∧ (applyConversion k s).peers = s.peers ∧
      (applyConversion k s).dose = s.dose ∧ (applyConversion k s).pump = s.pump ∧
      (applyConversion k s).filter = s.filter ∧ (applyConversion k s).store = s.store ∧
      (applyConversion k s).port = s.port ∧ (applyConversion k s).alarm = s.alarm ∧
      (applyConversion k s).pending = s.pending ∧ (applyConversion k s).choices = s.choices := by
  unfold applyConversion
  simp

@[simp] theorem applyConversion_reads (k : ConversionRecord) (s : State) :
    (∀ z, (applyConversion k s).isTrue z = s.isTrue z) ∧
      (∀ z, (applyConversion k s).isLatched z = s.isLatched z) ∧
      (applyConversion k s).nodeNumber = s.nodeNumber ∧
      (applyConversion k s).advertised = s.advertised := by
  simp [State.isTrue, State.isLatched, State.nodeNumber, State.advertised]

@[simp] theorem countCycle_frame (p t : Nat) (s : State) :
    (countCycle p t s).clock = s.clock ∧ (countCycle p t s).nodeStraps = s.nodeStraps ∧
      (countCycle p t s).addressOffset = s.addressOffset ∧ (countCycle p t s).cfg = s.cfg ∧
      (countCycle p t s).pulse = s.pulse ∧ (countCycle p t s).sensor = s.sensor ∧ (countCycle p t s).conv = s.conv ∧
      (countCycle p t s).tally = s.tally ∧ (countCycle p t s).peers = s.peers ∧ (countCycle p t s).dose = s.dose ∧
      (countCycle p t s).pump = s.pump ∧ (countCycle p t s).filter = s.filter ∧ (countCycle p t s).port = s.port ∧
      (countCycle p t s).alarm = s.alarm ∧ (countCycle p t s).pending = s.pending ∧
      (countCycle p t s).choices = s.choices := by
  unfold countCycle
  simp

@[simp] theorem countCycle_reads (p t : Nat) (s : State) :
    (∀ z, (countCycle p t s).isTrue z = s.isTrue z) ∧
      (∀ z, (countCycle p t s).isLatched z = s.isLatched z) ∧
      (countCycle p t s).nodeNumber = s.nodeNumber ∧
      (countCycle p t s).advertised = s.advertised := by
  simp [State.isTrue, State.isLatched, State.nodeNumber, State.advertised]

@[simp] theorem convert_frame (r : CycleRecord) (p t : Given) (s : State) :
    (convert r p t s).clock = s.clock ∧ (convert r p t s).nodeStraps = s.nodeStraps ∧
      (convert r p t s).addressOffset = s.addressOffset ∧ (convert r p t s).cfg = s.cfg ∧
      (convert r p t s).pulse = s.pulse ∧ (convert r p t s).sensor = s.sensor ∧ (convert r p t s).tally = s.tally ∧
      (convert r p t s).peers = s.peers ∧ (convert r p t s).port = s.port ∧ (convert r p t s).pending = s.pending ∧
      (convert r p t s).choices = s.choices := by
  unfold convert
  simp

@[simp] theorem convert_reads (r : CycleRecord) (p t : Given) (s : State) :
    (convert r p t s).nodeNumber = s.nodeNumber := by
  simp [State.nodeNumber]

@[simp] theorem cycleEnd_frame (s : State) :
    (cycleEnd s).clock = s.clock ∧ (cycleEnd s).nodeStraps = s.nodeStraps ∧
      (cycleEnd s).addressOffset = s.addressOffset ∧ (cycleEnd s).cfg = s.cfg ∧ (cycleEnd s).tally = s.tally ∧
      (cycleEnd s).peers = s.peers ∧ (cycleEnd s).port = s.port ∧ (cycleEnd s).pending = s.pending ∧
      (cycleEnd s).choices = s.choices := by
  unfold cycleEnd
  simp

@[simp] theorem cycleEnd_reads (s : State) :
    (cycleEnd s).nodeNumber = s.nodeNumber := by
  simp [State.nodeNumber]


/-! ## Peer Table -/

@[simp] theorem noteListing_frame (l : Bool) (s : State) :
    (noteListing l s).clock = s.clock ∧ (noteListing l s).nodeStraps = s.nodeStraps ∧
      (noteListing l s).addressOffset = s.addressOffset ∧ (noteListing l s).cfg = s.cfg ∧
      (noteListing l s).pulse = s.pulse ∧ (noteListing l s).sensor = s.sensor ∧ (noteListing l s).conv = s.conv ∧
      (noteListing l s).tally = s.tally ∧ (noteListing l s).dose = s.dose ∧ (noteListing l s).pump = s.pump ∧
      (noteListing l s).filter = s.filter ∧ (noteListing l s).store = s.store ∧ (noteListing l s).port = s.port ∧
      (noteListing l s).alarm = s.alarm ∧ (noteListing l s).pending = s.pending ∧
      (noteListing l s).choices = s.choices := by
  unfold noteListing
  (repeat' split) <;> simp

@[simp] theorem noteListing_reads (l : Bool) (s : State) :
    (∀ z, (noteListing l s).isTrue z = s.isTrue z) ∧
      (∀ z, (noteListing l s).isLatched z = s.isLatched z) ∧
      (noteListing l s).nodeNumber = s.nodeNumber ∧
      (noteListing l s).advertised = s.advertised := by
  simp [State.isTrue, State.isLatched, State.nodeNumber, State.advertised]

@[simp] theorem setEntry_frame (n : Nat) (e : Entry) (s : State) :
    (setEntry n e s).clock = s.clock ∧ (setEntry n e s).nodeStraps = s.nodeStraps ∧
      (setEntry n e s).addressOffset = s.addressOffset ∧ (setEntry n e s).cfg = s.cfg ∧
      (setEntry n e s).pulse = s.pulse ∧ (setEntry n e s).sensor = s.sensor ∧ (setEntry n e s).conv = s.conv ∧
      (setEntry n e s).tally = s.tally ∧ (setEntry n e s).dose = s.dose ∧ (setEntry n e s).pump = s.pump ∧
      (setEntry n e s).filter = s.filter ∧ (setEntry n e s).store = s.store ∧ (setEntry n e s).port = s.port ∧
      (setEntry n e s).alarm = s.alarm ∧ (setEntry n e s).pending = s.pending ∧ (setEntry n e s).choices = s.choices := by
  unfold setEntry
  simp

@[simp] theorem setEntry_reads (n : Nat) (e : Entry) (s : State) :
    (∀ z, (setEntry n e s).isTrue z = s.isTrue z) ∧
      (∀ z, (setEntry n e s).isLatched z = s.isLatched z) ∧
      (setEntry n e s).nodeNumber = s.nodeNumber ∧
      (setEntry n e s).advertised = s.advertised := by
  simp [State.isTrue, State.isLatched, State.nodeNumber, State.advertised]

@[simp] theorem admission_frame (f : TallyFrame) (s : State) :
    (admission f s).clock = s.clock ∧ (admission f s).nodeStraps = s.nodeStraps ∧
      (admission f s).addressOffset = s.addressOffset ∧ (admission f s).cfg = s.cfg ∧
      (admission f s).pulse = s.pulse ∧ (admission f s).sensor = s.sensor ∧ (admission f s).conv = s.conv ∧
      (admission f s).tally = s.tally ∧ (admission f s).dose = s.dose ∧ (admission f s).pump = s.pump ∧
      (admission f s).filter = s.filter ∧ (admission f s).port = s.port ∧ (admission f s).alarm = s.alarm ∧
      (admission f s).pending = s.pending ∧ (admission f s).choices = s.choices := by
  unfold admission
  simp

@[simp] theorem admission_reads (f : TallyFrame) (s : State) :
    (∀ z, (admission f s).isTrue z = s.isTrue z) ∧
      (∀ z, (admission f s).isLatched z = s.isLatched z) ∧
      (admission f s).nodeNumber = s.nodeNumber ∧
      (admission f s).advertised = s.advertised := by
  simp [State.isTrue, State.isLatched, State.nodeNumber, State.advertised]

@[simp] theorem updateEntry_frame (f : TallyFrame) (l : LiveFields) (b : Bool) (s : State) :
    (updateEntry f l b s).clock = s.clock ∧ (updateEntry f l b s).nodeStraps = s.nodeStraps ∧
      (updateEntry f l b s).addressOffset = s.addressOffset ∧ (updateEntry f l b s).cfg = s.cfg ∧
      (updateEntry f l b s).pulse = s.pulse ∧ (updateEntry f l b s).sensor = s.sensor ∧
      (updateEntry f l b s).conv = s.conv ∧ (updateEntry f l b s).tally = s.tally ∧
      (updateEntry f l b s).dose = s.dose ∧ (updateEntry f l b s).pump = s.pump ∧
      (updateEntry f l b s).filter = s.filter ∧ (updateEntry f l b s).store = s.store ∧
      (updateEntry f l b s).port = s.port ∧ (updateEntry f l b s).alarm = s.alarm ∧
      (updateEntry f l b s).pending = s.pending ∧ (updateEntry f l b s).choices = s.choices := by
  unfold updateEntry
  simp

@[simp] theorem updateEntry_reads (f : TallyFrame) (l : LiveFields) (b : Bool) (s : State) :
    (∀ z, (updateEntry f l b s).isTrue z = s.isTrue z) ∧
      (∀ z, (updateEntry f l b s).isLatched z = s.isLatched z) ∧
      (updateEntry f l b s).nodeNumber = s.nodeNumber ∧
      (updateEntry f l b s).advertised = s.advertised := by
  simp [State.isTrue, State.isLatched, State.nodeNumber, State.advertised]

@[simp] theorem raiseImplausible_frame (s : State) :
    (raiseImplausible s).clock = s.clock ∧ (raiseImplausible s).nodeStraps = s.nodeStraps ∧
      (raiseImplausible s).addressOffset = s.addressOffset ∧ (raiseImplausible s).cfg = s.cfg ∧
      (raiseImplausible s).pulse = s.pulse ∧ (raiseImplausible s).sensor = s.sensor ∧
      (raiseImplausible s).conv = s.conv ∧ (raiseImplausible s).tally = s.tally ∧
      (raiseImplausible s).peers = s.peers ∧ (raiseImplausible s).dose = s.dose ∧
      (raiseImplausible s).pump = s.pump ∧ (raiseImplausible s).filter = s.filter ∧
      (raiseImplausible s).port = s.port ∧ (raiseImplausible s).pending = s.pending ∧
      (raiseImplausible s).choices = s.choices := by
  unfold raiseImplausible
  simp

@[simp] theorem raiseImplausible_reads (s : State) :
    (raiseImplausible s).nodeNumber = s.nodeNumber ∧
      (raiseImplausible s).advertised = s.advertised := by
  simp [State.nodeNumber, State.advertised]

@[simp] theorem handAdoption_frame (k : AdoptionKind) (n x : Nat) (s : State) :
    (handAdoption k n x s).clock = s.clock ∧ (handAdoption k n x s).nodeStraps = s.nodeStraps ∧
      (handAdoption k n x s).addressOffset = s.addressOffset ∧ (handAdoption k n x s).cfg = s.cfg ∧
      (handAdoption k n x s).pulse = s.pulse ∧ (handAdoption k n x s).sensor = s.sensor ∧
      (handAdoption k n x s).conv = s.conv ∧ (handAdoption k n x s).tally = s.tally ∧
      (handAdoption k n x s).peers = s.peers ∧ (handAdoption k n x s).filter = s.filter ∧
      (handAdoption k n x s).port = s.port ∧ (handAdoption k n x s).pending = s.pending ∧
      (handAdoption k n x s).choices = s.choices := by
  unfold handAdoption
  (repeat' split) <;> simp

@[simp] theorem handAdoption_reads (k : AdoptionKind) (n x : Nat) (s : State) :
    (handAdoption k n x s).nodeNumber = s.nodeNumber := by
  simp [State.nodeNumber]

@[simp] theorem handCharge_frame (l n : Bool) (d : BitVec 32) (s : State) :
    (handCharge l n d s).clock = s.clock ∧ (handCharge l n d s).nodeStraps = s.nodeStraps ∧
      (handCharge l n d s).addressOffset = s.addressOffset ∧ (handCharge l n d s).cfg = s.cfg ∧
      (handCharge l n d s).pulse = s.pulse ∧ (handCharge l n d s).sensor = s.sensor ∧
      (handCharge l n d s).conv = s.conv ∧ (handCharge l n d s).tally = s.tally ∧
      (handCharge l n d s).peers = s.peers ∧ (handCharge l n d s).filter = s.filter ∧
      (handCharge l n d s).port = s.port ∧ (handCharge l n d s).pending = s.pending ∧
      (handCharge l n d s).choices = s.choices := by
  unfold handCharge
  (repeat' split) <;> simp

@[simp] theorem handCharge_reads (l n : Bool) (d : BitVec 32) (s : State) :
    (handCharge l n d s).nodeNumber = s.nodeNumber := by
  simp [State.nodeNumber]

@[simp] theorem handTallyAdoption_frame (n : Nat) (l : LiveFields) (v : Bool) (d : Nat) (s : State) :
    (handTallyAdoption n l v d s).clock = s.clock ∧ (handTallyAdoption n l v d s).nodeStraps = s.nodeStraps ∧
      (handTallyAdoption n l v d s).addressOffset = s.addressOffset ∧ (handTallyAdoption n l v d s).cfg = s.cfg ∧
      (handTallyAdoption n l v d s).pulse = s.pulse ∧ (handTallyAdoption n l v d s).sensor = s.sensor ∧
      (handTallyAdoption n l v d s).conv = s.conv ∧ (handTallyAdoption n l v d s).tally = s.tally ∧
      (handTallyAdoption n l v d s).peers = s.peers ∧ (handTallyAdoption n l v d s).filter = s.filter ∧
      (handTallyAdoption n l v d s).port = s.port ∧ (handTallyAdoption n l v d s).pending = s.pending ∧
      (handTallyAdoption n l v d s).choices = s.choices := by
  unfold handTallyAdoption
  (repeat' split) <;> simp

@[simp] theorem handTallyAdoption_reads (n : Nat) (l : LiveFields) (v : Bool) (d : Nat) (s : State) :
    (handTallyAdoption n l v d s).nodeNumber = s.nodeNumber := by
  simp [State.nodeNumber]

@[simp] theorem acceptTally_frame (f : TallyFrame) (l : LiveFields) (s : State) :
    (acceptTally f l s).clock = s.clock ∧ (acceptTally f l s).nodeStraps = s.nodeStraps ∧
      (acceptTally f l s).addressOffset = s.addressOffset ∧ (acceptTally f l s).cfg = s.cfg ∧
      (acceptTally f l s).pulse = s.pulse ∧ (acceptTally f l s).sensor = s.sensor ∧
      (acceptTally f l s).conv = s.conv ∧ (acceptTally f l s).tally = s.tally ∧ (acceptTally f l s).port = s.port ∧
      (acceptTally f l s).pending = s.pending ∧ (acceptTally f l s).choices = s.choices := by
  unfold acceptTally
  dsimp only
  (repeat' split) <;> simp

@[simp] theorem acceptTally_reads (f : TallyFrame) (l : LiveFields) (s : State) :
    (acceptTally f l s).nodeNumber = s.nodeNumber := by
  simp [State.nodeNumber]

@[simp] theorem takeTally_frame (f : TallyFrame) (s : State) :
    (takeTally f s).clock = s.clock ∧ (takeTally f s).nodeStraps = s.nodeStraps ∧
      (takeTally f s).addressOffset = s.addressOffset ∧ (takeTally f s).cfg = s.cfg ∧
      (takeTally f s).pulse = s.pulse ∧ (takeTally f s).sensor = s.sensor ∧ (takeTally f s).conv = s.conv ∧
      (takeTally f s).tally = s.tally ∧ (takeTally f s).port = s.port ∧ (takeTally f s).pending = s.pending ∧
      (takeTally f s).choices = s.choices := by
  unfold takeTally
  (repeat' split) <;> simp

@[simp] theorem takeTally_reads (f : TallyFrame) (s : State) :
    (takeTally f s).nodeNumber = s.nodeNumber := by
  simp [State.nodeNumber]

@[simp] theorem acceptLeave_frame (f : LeaveFrame) (l : LiveFields) (s : State) :
    (acceptLeave f l s).clock = s.clock ∧ (acceptLeave f l s).nodeStraps = s.nodeStraps ∧
      (acceptLeave f l s).addressOffset = s.addressOffset ∧ (acceptLeave f l s).cfg = s.cfg ∧
      (acceptLeave f l s).pulse = s.pulse ∧ (acceptLeave f l s).sensor = s.sensor ∧
      (acceptLeave f l s).conv = s.conv ∧ (acceptLeave f l s).tally = s.tally ∧
      (acceptLeave f l s).filter = s.filter ∧ (acceptLeave f l s).port = s.port ∧
      (acceptLeave f l s).pending = s.pending ∧ (acceptLeave f l s).choices = s.choices := by
  unfold acceptLeave
  dsimp only
  (repeat' split) <;> simp

@[simp] theorem acceptLeave_reads (f : LeaveFrame) (l : LiveFields) (s : State) :
    (acceptLeave f l s).nodeNumber = s.nodeNumber := by
  simp [State.nodeNumber]

@[simp] theorem takeLeave_frame (f : LeaveFrame) (s : State) :
    (takeLeave f s).clock = s.clock ∧ (takeLeave f s).nodeStraps = s.nodeStraps ∧
      (takeLeave f s).addressOffset = s.addressOffset ∧ (takeLeave f s).cfg = s.cfg ∧
      (takeLeave f s).pulse = s.pulse ∧ (takeLeave f s).sensor = s.sensor ∧ (takeLeave f s).conv = s.conv ∧
      (takeLeave f s).tally = s.tally ∧ (takeLeave f s).filter = s.filter ∧ (takeLeave f s).port = s.port ∧
      (takeLeave f s).pending = s.pending ∧ (takeLeave f s).choices = s.choices := by
  unfold takeLeave
  dsimp only
  (repeat' split) <;> simp

@[simp] theorem takeLeave_reads (f : LeaveFrame) (s : State) :
    (takeLeave f s).nodeNumber = s.nodeNumber := by
  simp [State.nodeNumber]

@[simp] theorem takeFrame_frame (f : Frame) (s : State) :
    (takeFrame f s).clock = s.clock ∧ (takeFrame f s).nodeStraps = s.nodeStraps ∧
      (takeFrame f s).addressOffset = s.addressOffset ∧ (takeFrame f s).cfg = s.cfg ∧
      (takeFrame f s).pulse = s.pulse ∧ (takeFrame f s).sensor = s.sensor ∧ (takeFrame f s).conv = s.conv ∧
      (takeFrame f s).tally = s.tally ∧ (takeFrame f s).port = s.port ∧ (takeFrame f s).pending = s.pending ∧
      (takeFrame f s).choices = s.choices := by
  unfold takeFrame
  (repeat' split) <;> simp

@[simp] theorem takeFrame_reads (f : Frame) (s : State) :
    (takeFrame f s).nodeNumber = s.nodeNumber := by
  simp [State.nodeNumber]

@[simp] theorem duplicate_frame (s : State) :
    (duplicate s).clock = s.clock ∧ (duplicate s).nodeStraps = s.nodeStraps ∧
      (duplicate s).addressOffset = s.addressOffset ∧ (duplicate s).cfg = s.cfg ∧ (duplicate s).pulse = s.pulse ∧
      (duplicate s).sensor = s.sensor ∧ (duplicate s).conv = s.conv ∧ (duplicate s).filter = s.filter ∧
      (duplicate s).port = s.port ∧ (duplicate s).pending = s.pending ∧ (duplicate s).choices = s.choices := by
  unfold duplicate
  (repeat' split) <;> simp

@[simp] theorem duplicate_reads (s : State) :
    (duplicate s).nodeNumber = s.nodeNumber := by
  simp [State.nodeNumber]

@[simp] theorem goodFrame_frame (f : Frame) (s : State) :
    (goodFrame f s).clock = s.clock ∧ (goodFrame f s).nodeStraps = s.nodeStraps ∧
      (goodFrame f s).addressOffset = s.addressOffset ∧ (goodFrame f s).cfg = s.cfg ∧
      (goodFrame f s).pulse = s.pulse ∧ (goodFrame f s).sensor = s.sensor ∧ (goodFrame f s).conv = s.conv ∧
      (goodFrame f s).port = s.port ∧ (goodFrame f s).pending = s.pending ∧ (goodFrame f s).choices = s.choices := by
  unfold goodFrame
  (repeat' split) <;> simp

@[simp] theorem goodFrame_reads (f : Frame) (s : State) :
    (goodFrame f s).nodeNumber = s.nodeNumber := by
  simp [State.nodeNumber]

@[simp] theorem badFrame_frame (c : BadCause) (s : State) :
    (badFrame c s).clock = s.clock ∧ (badFrame c s).nodeStraps = s.nodeStraps ∧
      (badFrame c s).addressOffset = s.addressOffset ∧ (badFrame c s).cfg = s.cfg ∧ (badFrame c s).pulse = s.pulse ∧
      (badFrame c s).sensor = s.sensor ∧ (badFrame c s).conv = s.conv ∧ (badFrame c s).peers = s.peers ∧
      (badFrame c s).dose = s.dose ∧ (badFrame c s).pump = s.pump ∧ (badFrame c s).filter = s.filter ∧
      (badFrame c s).store = s.store ∧ (badFrame c s).port = s.port ∧ (badFrame c s).alarm = s.alarm ∧
      (badFrame c s).pending = s.pending ∧ (badFrame c s).choices = s.choices := by
  unfold badFrame
  simp

@[simp] theorem badFrame_reads (c : BadCause) (s : State) :
    (∀ z, (badFrame c s).isTrue z = s.isTrue z) ∧
      (∀ z, (badFrame c s).isLatched z = s.isLatched z) ∧
      (badFrame c s).nodeNumber = s.nodeNumber ∧
      (badFrame c s).advertised = s.advertised := by
  simp [State.isTrue, State.isLatched, State.nodeNumber, State.advertised]

@[simp] theorem expire_frame (n : Nat) (f : LiveFields) (s : State) :
    (expire n f s).clock = s.clock ∧ (expire n f s).nodeStraps = s.nodeStraps ∧
      (expire n f s).addressOffset = s.addressOffset ∧ (expire n f s).cfg = s.cfg ∧ (expire n f s).pulse = s.pulse ∧
      (expire n f s).sensor = s.sensor ∧ (expire n f s).conv = s.conv ∧ (expire n f s).tally = s.tally ∧
      (expire n f s).filter = s.filter ∧ (expire n f s).port = s.port ∧ (expire n f s).pending = s.pending ∧
      (expire n f s).choices = s.choices := by
  unfold expire
  (repeat' split) <;> simp

@[simp] theorem expire_reads (n : Nat) (f : LiveFields) (s : State) :
    (expire n f s).nodeNumber = s.nodeNumber := by
  simp [State.nodeNumber]


/-! ## Pump Sequencer -/

@[simp] theorem enterPhase_frame (p : StrokePhase) (s : State) :
    (enterPhase p s).clock = s.clock ∧ (enterPhase p s).nodeStraps = s.nodeStraps ∧
      (enterPhase p s).addressOffset = s.addressOffset ∧ (enterPhase p s).cfg = s.cfg ∧
      (enterPhase p s).pulse = s.pulse ∧ (enterPhase p s).sensor = s.sensor ∧ (enterPhase p s).conv = s.conv ∧
      (enterPhase p s).tally = s.tally ∧ (enterPhase p s).peers = s.peers ∧ (enterPhase p s).dose = s.dose ∧
      (enterPhase p s).filter = s.filter ∧ (enterPhase p s).store = s.store ∧ (enterPhase p s).port = s.port ∧
      (enterPhase p s).alarm = s.alarm ∧ (enterPhase p s).pending = s.pending ∧ (enterPhase p s).choices = s.choices := by
  unfold enterPhase
  simp

@[simp] theorem enterPhase_reads (p : StrokePhase) (s : State) :
    (∀ z, (enterPhase p s).isTrue z = s.isTrue z) ∧
      (∀ z, (enterPhase p s).isLatched z = s.isLatched z) ∧
      (enterPhase p s).nodeNumber = s.nodeNumber := by
  simp [State.isTrue, State.isLatched, State.nodeNumber]

@[simp] theorem confirmDosing_frame (s : State) :
    (confirmDosing s).clock = s.clock ∧ (confirmDosing s).nodeStraps = s.nodeStraps ∧
      (confirmDosing s).addressOffset = s.addressOffset ∧ (confirmDosing s).cfg = s.cfg ∧
      (confirmDosing s).pulse = s.pulse ∧ (confirmDosing s).sensor = s.sensor ∧ (confirmDosing s).conv = s.conv ∧
      (confirmDosing s).tally = s.tally ∧ (confirmDosing s).peers = s.peers ∧ (confirmDosing s).port = s.port ∧
      (confirmDosing s).pending = s.pending ∧ (confirmDosing s).choices = s.choices := by
  unfold confirmDosing
  simp

@[simp] theorem confirmDosing_reads (s : State) :
    (confirmDosing s).nodeNumber = s.nodeNumber := by
  simp [State.nodeNumber]

@[simp] theorem confirmPrime_frame (v : Bool) (s : State) :
    (confirmPrime v s).clock = s.clock ∧ (confirmPrime v s).nodeStraps = s.nodeStraps ∧
      (confirmPrime v s).addressOffset = s.addressOffset ∧ (confirmPrime v s).cfg = s.cfg ∧
      (confirmPrime v s).pulse = s.pulse ∧ (confirmPrime v s).sensor = s.sensor ∧ (confirmPrime v s).conv = s.conv ∧
      (confirmPrime v s).tally = s.tally ∧ (confirmPrime v s).peers = s.peers ∧ (confirmPrime v s).dose = s.dose ∧
      (confirmPrime v s).filter = s.filter ∧ (confirmPrime v s).port = s.port ∧
      (confirmPrime v s).pending = s.pending ∧ (confirmPrime v s).choices = s.choices := by
  unfold confirmPrime
  dsimp only
  (repeat' split) <;> simp

@[simp] theorem confirmPrime_reads (v : Bool) (s : State) :
    (confirmPrime v s).nodeNumber = s.nodeNumber := by
  simp [State.nodeNumber]

@[simp] theorem confirmStroke_frame (k : Stroke) (s : State) :
    (confirmStroke k s).clock = s.clock ∧ (confirmStroke k s).nodeStraps = s.nodeStraps ∧
      (confirmStroke k s).addressOffset = s.addressOffset ∧ (confirmStroke k s).cfg = s.cfg ∧
      (confirmStroke k s).pulse = s.pulse ∧ (confirmStroke k s).sensor = s.sensor ∧
      (confirmStroke k s).conv = s.conv ∧ (confirmStroke k s).tally = s.tally ∧ (confirmStroke k s).peers = s.peers ∧
      (confirmStroke k s).port = s.port ∧ (confirmStroke k s).pending = s.pending ∧
      (confirmStroke k s).choices = s.choices := by
  unfold confirmStroke
  (repeat' split) <;> simp

@[simp] theorem confirmStroke_reads (k : Stroke) (s : State) :
    (confirmStroke k s).nodeNumber = s.nodeNumber := by
  simp [State.nodeNumber]

@[simp] theorem enterFault_frame (s : State) :
    (enterFault s).clock = s.clock ∧ (enterFault s).nodeStraps = s.nodeStraps ∧
      (enterFault s).addressOffset = s.addressOffset ∧ (enterFault s).cfg = s.cfg ∧ (enterFault s).pulse = s.pulse ∧
      (enterFault s).sensor = s.sensor ∧ (enterFault s).conv = s.conv ∧ (enterFault s).tally = s.tally ∧
      (enterFault s).peers = s.peers ∧ (enterFault s).filter = s.filter ∧ (enterFault s).port = s.port ∧
      (enterFault s).pending = s.pending ∧ (enterFault s).choices = s.choices := by
  unfold enterFault
  simp

@[simp] theorem enterFault_reads (s : State) :
    (enterFault s).nodeNumber = s.nodeNumber := by
  simp [State.nodeNumber]

@[simp] theorem missStroke_frame (s : State) :
    (missStroke s).clock = s.clock ∧ (missStroke s).nodeStraps = s.nodeStraps ∧
      (missStroke s).addressOffset = s.addressOffset ∧ (missStroke s).cfg = s.cfg ∧ (missStroke s).pulse = s.pulse ∧
      (missStroke s).sensor = s.sensor ∧ (missStroke s).conv = s.conv ∧ (missStroke s).tally = s.tally ∧
      (missStroke s).peers = s.peers ∧ (missStroke s).filter = s.filter ∧ (missStroke s).port = s.port ∧
      (missStroke s).pending = s.pending ∧ (missStroke s).choices = s.choices := by
  unfold missStroke
  dsimp only
  (repeat' split) <;> simp

@[simp] theorem missStroke_reads (s : State) :
    (missStroke s).nodeNumber = s.nodeNumber := by
  simp [State.nodeNumber]

@[simp] theorem strayPulse_frame (s : State) :
    (strayPulse s).clock = s.clock ∧ (strayPulse s).nodeStraps = s.nodeStraps ∧
      (strayPulse s).addressOffset = s.addressOffset ∧ (strayPulse s).cfg = s.cfg ∧ (strayPulse s).pulse = s.pulse ∧
      (strayPulse s).sensor = s.sensor ∧ (strayPulse s).conv = s.conv ∧ (strayPulse s).tally = s.tally ∧
      (strayPulse s).peers = s.peers ∧ (strayPulse s).dose = s.dose ∧ (strayPulse s).filter = s.filter ∧
      (strayPulse s).store = s.store ∧ (strayPulse s).port = s.port ∧ (strayPulse s).alarm = s.alarm ∧
      (strayPulse s).pending = s.pending ∧ (strayPulse s).choices = s.choices := by
  unfold strayPulse
  simp

@[simp] theorem strayPulse_reads (s : State) :
    (∀ z, (strayPulse s).isTrue z = s.isTrue z) ∧
      (∀ z, (strayPulse s).isLatched z = s.isLatched z) ∧
      (strayPulse s).nodeNumber = s.nodeNumber := by
  simp [State.isTrue, State.isLatched, State.nodeNumber]

@[simp] theorem takePulse_frame (s : State) :
    (takePulse s).clock = s.clock ∧ (takePulse s).nodeStraps = s.nodeStraps ∧
      (takePulse s).addressOffset = s.addressOffset ∧ (takePulse s).cfg = s.cfg ∧ (takePulse s).pulse = s.pulse ∧
      (takePulse s).sensor = s.sensor ∧ (takePulse s).conv = s.conv ∧ (takePulse s).tally = s.tally ∧
      (takePulse s).peers = s.peers ∧ (takePulse s).port = s.port ∧ (takePulse s).pending = s.pending ∧
      (takePulse s).choices = s.choices := by
  unfold takePulse
  (repeat' split) <;> simp

@[simp] theorem takePulse_reads (s : State) :
    (takePulse s).nodeNumber = s.nodeNumber := by
  simp [State.nodeNumber]


/-! ## Concentration Filter -/

@[simp] theorem carryPeriod_frame (s : State) :
    (carryPeriod s).clock = s.clock ∧ (carryPeriod s).nodeStraps = s.nodeStraps ∧
      (carryPeriod s).addressOffset = s.addressOffset ∧ (carryPeriod s).cfg = s.cfg ∧
      (carryPeriod s).pulse = s.pulse ∧ (carryPeriod s).sensor = s.sensor ∧ (carryPeriod s).conv = s.conv ∧
      (carryPeriod s).tally = s.tally ∧ (carryPeriod s).peers = s.peers ∧ (carryPeriod s).dose = s.dose ∧
      (carryPeriod s).pump = s.pump ∧ (carryPeriod s).store = s.store ∧ (carryPeriod s).port = s.port ∧
      (carryPeriod s).alarm = s.alarm ∧ (carryPeriod s).pending = s.pending ∧ (carryPeriod s).choices = s.choices := by
  unfold carryPeriod
  simp

@[simp] theorem carryPeriod_reads (s : State) :
    (∀ z, (carryPeriod s).isTrue z = s.isTrue z) ∧
      (∀ z, (carryPeriod s).isLatched z = s.isLatched z) ∧
      (carryPeriod s).nodeNumber = s.nodeNumber ∧
      (carryPeriod s).advertised = s.advertised := by
  simp [State.isTrue, State.isLatched, State.nodeNumber, State.advertised]

@[simp] theorem takeSample_frame (s : State) :
    (takeSample s).clock = s.clock ∧ (takeSample s).nodeStraps = s.nodeStraps ∧
      (takeSample s).addressOffset = s.addressOffset ∧ (takeSample s).cfg = s.cfg ∧ (takeSample s).pulse = s.pulse ∧
      (takeSample s).sensor = s.sensor ∧ (takeSample s).conv = s.conv ∧ (takeSample s).tally = s.tally ∧
      (takeSample s).peers = s.peers ∧ (takeSample s).dose = s.dose ∧ (takeSample s).pump = s.pump ∧
      (takeSample s).store = s.store ∧ (takeSample s).port = s.port ∧ (takeSample s).alarm = s.alarm ∧
      (takeSample s).pending = s.pending ∧ (takeSample s).choices = s.choices := by
  unfold takeSample
  simp

@[simp] theorem takeSample_reads (s : State) :
    (∀ z, (takeSample s).isTrue z = s.isTrue z) ∧
      (∀ z, (takeSample s).isLatched z = s.isLatched z) ∧
      (takeSample s).nodeNumber = s.nodeNumber ∧
      (takeSample s).advertised = s.advertised := by
  simp [State.isTrue, State.isLatched, State.nodeNumber, State.advertised]

@[simp] theorem testThrottle_frame (s : State) :
    (testThrottle s).clock = s.clock ∧ (testThrottle s).nodeStraps = s.nodeStraps ∧
      (testThrottle s).addressOffset = s.addressOffset ∧ (testThrottle s).cfg = s.cfg ∧
      (testThrottle s).pulse = s.pulse ∧ (testThrottle s).sensor = s.sensor ∧ (testThrottle s).conv = s.conv ∧
      (testThrottle s).tally = s.tally ∧ (testThrottle s).peers = s.peers ∧ (testThrottle s).dose = s.dose ∧
      (testThrottle s).pump = s.pump ∧ (testThrottle s).port = s.port ∧ (testThrottle s).pending = s.pending ∧
      (testThrottle s).choices = s.choices := by
  unfold testThrottle
  simp

@[simp] theorem testThrottle_reads (s : State) :
    (testThrottle s).nodeNumber = s.nodeNumber ∧
      (testThrottle s).advertised = s.advertised := by
  simp [State.nodeNumber, State.advertised]

@[simp] theorem testDwell_frame (s : State) :
    (testDwell s).clock = s.clock ∧ (testDwell s).nodeStraps = s.nodeStraps ∧
      (testDwell s).addressOffset = s.addressOffset ∧ (testDwell s).cfg = s.cfg ∧ (testDwell s).pulse = s.pulse ∧
      (testDwell s).sensor = s.sensor ∧ (testDwell s).conv = s.conv ∧ (testDwell s).tally = s.tally ∧
      (testDwell s).peers = s.peers ∧ (testDwell s).dose = s.dose ∧ (testDwell s).pump = s.pump ∧
      (testDwell s).store = s.store ∧ (testDwell s).port = s.port ∧ (testDwell s).pending = s.pending ∧
      (testDwell s).choices = s.choices := by
  unfold testDwell
  (repeat' split) <;> simp

@[simp] theorem testDwell_reads (s : State) :
    (testDwell s).nodeNumber = s.nodeNumber ∧
      (testDwell s).advertised = s.advertised := by
  simp [State.nodeNumber, State.advertised]

@[simp] theorem periodEnd_frame (s : State) :
    (periodEnd s).clock = s.clock ∧ (periodEnd s).nodeStraps = s.nodeStraps ∧
      (periodEnd s).addressOffset = s.addressOffset ∧ (periodEnd s).cfg = s.cfg ∧ (periodEnd s).pulse = s.pulse ∧
      (periodEnd s).sensor = s.sensor ∧ (periodEnd s).conv = s.conv ∧ (periodEnd s).tally = s.tally ∧
      (periodEnd s).peers = s.peers ∧ (periodEnd s).dose = s.dose ∧ (periodEnd s).pump = s.pump ∧
      (periodEnd s).port = s.port ∧ (periodEnd s).pending = s.pending ∧ (periodEnd s).choices = s.choices := by
  unfold periodEnd
  simp only [apply_ite]
  simp

@[simp] theorem periodEnd_reads (s : State) :
    (periodEnd s).nodeNumber = s.nodeNumber ∧
      (periodEnd s).advertised = s.advertised := by
  simp [State.nodeNumber, State.advertised]


/-! ## Interval Store -/

@[simp] theorem openInterval_frame (s : State) :
    (openInterval s).clock = s.clock ∧ (openInterval s).nodeStraps = s.nodeStraps ∧
      (openInterval s).addressOffset = s.addressOffset ∧ (openInterval s).cfg = s.cfg ∧
      (openInterval s).pulse = s.pulse ∧ (openInterval s).sensor = s.sensor ∧ (openInterval s).conv = s.conv ∧
      (openInterval s).tally = s.tally ∧ (openInterval s).peers = s.peers ∧ (openInterval s).dose = s.dose ∧
      (openInterval s).pump = s.pump ∧ (openInterval s).filter = s.filter ∧ (openInterval s).port = s.port ∧
      (openInterval s).alarm = s.alarm ∧ (openInterval s).pending = s.pending ∧ (openInterval s).choices = s.choices := by
  unfold openInterval
  simp

@[simp] theorem openInterval_reads (s : State) :
    (∀ z, (openInterval s).isTrue z = s.isTrue z) ∧
      (∀ z, (openInterval s).isLatched z = s.isLatched z) ∧
      (openInterval s).nodeNumber = s.nodeNumber ∧
      (openInterval s).advertised = s.advertised := by
  simp [State.isTrue, State.isLatched, State.nodeNumber, State.advertised]

@[simp] theorem closeInterval_frame (c : CloseCause) (s : State) :
    (closeInterval c s).clock = s.clock ∧ (closeInterval c s).nodeStraps = s.nodeStraps ∧
      (closeInterval c s).addressOffset = s.addressOffset ∧ (closeInterval c s).cfg = s.cfg ∧
      (closeInterval c s).pulse = s.pulse ∧ (closeInterval c s).sensor = s.sensor ∧
      (closeInterval c s).conv = s.conv ∧ (closeInterval c s).tally = s.tally ∧ (closeInterval c s).peers = s.peers ∧
      (closeInterval c s).dose = s.dose ∧ (closeInterval c s).pump = s.pump ∧ (closeInterval c s).filter = s.filter ∧
      (closeInterval c s).port = s.port ∧ (closeInterval c s).alarm = s.alarm ∧
      (closeInterval c s).pending = s.pending ∧ (closeInterval c s).choices = s.choices := by
  unfold closeInterval
  (repeat' split) <;> simp

@[simp] theorem closeInterval_reads (c : CloseCause) (s : State) :
    (∀ z, (closeInterval c s).isTrue z = s.isTrue z) ∧
      (∀ z, (closeInterval c s).isLatched z = s.isLatched z) ∧
      (closeInterval c s).nodeNumber = s.nodeNumber ∧
      (closeInterval c s).advertised = s.advertised := by
  simp [State.isTrue, State.isLatched, State.nodeNumber, State.advertised]


/-! ## Supervisory Port -/

@[simp] theorem latch_frame (l : Selector) (b : List Byte) (s : State) :
    (latch l b s).clock = s.clock ∧ (latch l b s).nodeStraps = s.nodeStraps ∧
      (latch l b s).addressOffset = s.addressOffset ∧ (latch l b s).cfg = s.cfg ∧ (latch l b s).pulse = s.pulse ∧
      (latch l b s).sensor = s.sensor ∧ (latch l b s).conv = s.conv ∧ (latch l b s).tally = s.tally ∧
      (latch l b s).peers = s.peers ∧ (latch l b s).dose = s.dose ∧ (latch l b s).pump = s.pump ∧
      (latch l b s).filter = s.filter ∧ (latch l b s).store = s.store ∧ (latch l b s).alarm = s.alarm ∧
      (latch l b s).pending = s.pending ∧ (latch l b s).choices = s.choices := by
  unfold latch
  simp

@[simp] theorem latch_reads (l : Selector) (b : List Byte) (s : State) :
    (∀ z, (latch l b s).isTrue z = s.isTrue z) ∧
      (∀ z, (latch l b s).isLatched z = s.isLatched z) ∧
      (latch l b s).nodeNumber = s.nodeNumber ∧
      (latch l b s).advertised = s.advertised := by
  simp [State.isTrue, State.isLatched, State.nodeNumber, State.advertised]

@[simp] theorem protocolError_frame (s : State) :
    (protocolError s).clock = s.clock ∧ (protocolError s).nodeStraps = s.nodeStraps ∧
      (protocolError s).addressOffset = s.addressOffset ∧ (protocolError s).cfg = s.cfg ∧
      (protocolError s).pulse = s.pulse ∧ (protocolError s).sensor = s.sensor ∧ (protocolError s).conv = s.conv ∧
      (protocolError s).tally = s.tally ∧ (protocolError s).peers = s.peers ∧ (protocolError s).dose = s.dose ∧
      (protocolError s).pump = s.pump ∧ (protocolError s).filter = s.filter ∧ (protocolError s).store = s.store ∧
      (protocolError s).alarm = s.alarm ∧ (protocolError s).pending = s.pending ∧
      (protocolError s).choices = s.choices := by
  unfold protocolError
  simp

@[simp] theorem protocolError_reads (s : State) :
    (∀ z, (protocolError s).isTrue z = s.isTrue z) ∧
      (∀ z, (protocolError s).isLatched z = s.isLatched z) ∧
      (protocolError s).nodeNumber = s.nodeNumber ∧
      (protocolError s).advertised = s.advertised := by
  simp [State.isTrue, State.isLatched, State.nodeNumber, State.advertised]

@[simp] theorem recordLast_frame (k : CommandKind) (c : Byte) (r : CommandResult) (i : Nat) (s : State) :
    (recordLast k c r i s).clock = s.clock ∧ (recordLast k c r i s).nodeStraps = s.nodeStraps ∧
      (recordLast k c r i s).addressOffset = s.addressOffset ∧ (recordLast k c r i s).cfg = s.cfg ∧
      (recordLast k c r i s).pulse = s.pulse ∧ (recordLast k c r i s).sensor = s.sensor ∧
      (recordLast k c r i s).conv = s.conv ∧ (recordLast k c r i s).tally = s.tally ∧
      (recordLast k c r i s).peers = s.peers ∧ (recordLast k c r i s).dose = s.dose ∧
      (recordLast k c r i s).pump = s.pump ∧ (recordLast k c r i s).filter = s.filter ∧
      (recordLast k c r i s).store = s.store ∧ (recordLast k c r i s).alarm = s.alarm ∧
      (recordLast k c r i s).pending = s.pending ∧ (recordLast k c r i s).choices = s.choices := by
  unfold recordLast
  simp

@[simp] theorem recordLast_reads (k : CommandKind) (c : Byte) (r : CommandResult) (i : Nat) (s : State) :
    (∀ z, (recordLast k c r i s).isTrue z = s.isTrue z) ∧
      (∀ z, (recordLast k c r i s).isLatched z = s.isLatched z) ∧
      (recordLast k c r i s).nodeNumber = s.nodeNumber ∧
      (recordLast k c r i s).advertised = s.advertised := by
  simp [State.isTrue, State.isLatched, State.nodeNumber, State.advertised]

@[simp] theorem storeConfig_frame (o : Nat) (d : List Byte) (s : State) :
    (storeConfig o d s).clock = s.clock ∧ (storeConfig o d s).nodeStraps = s.nodeStraps ∧
      (storeConfig o d s).addressOffset = s.addressOffset ∧ (storeConfig o d s).cfg = s.cfg ∧
      (storeConfig o d s).pulse = s.pulse ∧ (storeConfig o d s).sensor = s.sensor ∧
      (storeConfig o d s).conv = s.conv ∧ (storeConfig o d s).tally = s.tally ∧ (storeConfig o d s).peers = s.peers ∧
      (storeConfig o d s).dose = s.dose ∧ (storeConfig o d s).pump = s.pump ∧ (storeConfig o d s).filter = s.filter ∧
      (storeConfig o d s).store = s.store ∧ (storeConfig o d s).alarm = s.alarm ∧
      (storeConfig o d s).pending = s.pending ∧ (storeConfig o d s).choices = s.choices := by
  unfold storeConfig
  (repeat' split) <;> simp

@[simp] theorem storeConfig_reads (o : Nat) (d : List Byte) (s : State) :
    (∀ z, (storeConfig o d s).isTrue z = s.isTrue z) ∧
      (∀ z, (storeConfig o d s).isLatched z = s.isLatched z) ∧
      (storeConfig o d s).nodeNumber = s.nodeNumber ∧
      (storeConfig o d s).advertised = s.advertised := by
  simp [State.isTrue, State.isLatched, State.nodeNumber, State.advertised]

@[simp] theorem recordCommand_frame (c : Byte) (r : CommandResult) (i : Nat) (s : State) :
    (recordCommand c r i s).clock = s.clock ∧ (recordCommand c r i s).nodeStraps = s.nodeStraps ∧
      (recordCommand c r i s).addressOffset = s.addressOffset ∧ (recordCommand c r i s).cfg = s.cfg ∧
      (recordCommand c r i s).pulse = s.pulse ∧ (recordCommand c r i s).sensor = s.sensor ∧
      (recordCommand c r i s).conv = s.conv ∧ (recordCommand c r i s).tally = s.tally ∧
      (recordCommand c r i s).peers = s.peers ∧ (recordCommand c r i s).dose = s.dose ∧
      (recordCommand c r i s).pump = s.pump ∧ (recordCommand c r i s).filter = s.filter ∧
      (recordCommand c r i s).store = s.store ∧ (recordCommand c r i s).alarm = s.alarm ∧
      (recordCommand c r i s).pending = s.pending ∧ (recordCommand c r i s).choices = s.choices := by
  unfold recordCommand
  simp

@[simp] theorem recordCommand_reads (c : Byte) (r : CommandResult) (i : Nat) (s : State) :
    (∀ z, (recordCommand c r i s).isTrue z = s.isTrue z) ∧
      (∀ z, (recordCommand c r i s).isLatched z = s.isLatched z) ∧
      (recordCommand c r i s).nodeNumber = s.nodeNumber ∧
      (recordCommand c r i s).advertised = s.advertised := by
  simp [State.isTrue, State.isLatched, State.nodeNumber, State.advertised]

@[simp] theorem done_frame (c : Byte) (s : State) :
    (done c s).clock = s.clock ∧ (done c s).nodeStraps = s.nodeStraps ∧ (done c s).addressOffset = s.addressOffset ∧
      (done c s).cfg = s.cfg ∧ (done c s).pulse = s.pulse ∧ (done c s).sensor = s.sensor ∧ (done c s).conv = s.conv ∧
      (done c s).tally = s.tally ∧ (done c s).peers = s.peers ∧ (done c s).dose = s.dose ∧ (done c s).pump = s.pump ∧
      (done c s).filter = s.filter ∧ (done c s).store = s.store ∧ (done c s).alarm = s.alarm ∧
      (done c s).pending = s.pending ∧ (done c s).choices = s.choices := by
  unfold done
  simp

@[simp] theorem done_reads (c : Byte) (s : State) :
    (∀ z, (done c s).isTrue z = s.isTrue z) ∧
      (∀ z, (done c s).isLatched z = s.isLatched z) ∧
      (done c s).nodeNumber = s.nodeNumber ∧
      (done c s).advertised = s.advertised := by
  simp [State.isTrue, State.isLatched, State.nodeNumber, State.advertised]

@[simp] theorem refuseState_frame (c : Byte) (s : State) :
    (refuseState c s).clock = s.clock ∧ (refuseState c s).nodeStraps = s.nodeStraps ∧
      (refuseState c s).addressOffset = s.addressOffset ∧ (refuseState c s).cfg = s.cfg ∧
      (refuseState c s).pulse = s.pulse ∧ (refuseState c s).sensor = s.sensor ∧ (refuseState c s).conv = s.conv ∧
      (refuseState c s).tally = s.tally ∧ (refuseState c s).peers = s.peers ∧ (refuseState c s).dose = s.dose ∧
      (refuseState c s).pump = s.pump ∧ (refuseState c s).filter = s.filter ∧ (refuseState c s).store = s.store ∧
      (refuseState c s).alarm = s.alarm ∧ (refuseState c s).pending = s.pending ∧
      (refuseState c s).choices = s.choices := by
  unfold refuseState
  simp

@[simp] theorem refuseState_reads (c : Byte) (s : State) :
    (∀ z, (refuseState c s).isTrue z = s.isTrue z) ∧
      (∀ z, (refuseState c s).isLatched z = s.isLatched z) ∧
      (refuseState c s).nodeNumber = s.nodeNumber ∧
      (refuseState c s).advertised = s.advertised := by
  simp [State.isTrue, State.isLatched, State.nodeNumber, State.advertised]

@[simp] theorem enterPriming_frame (s : State) :
    (enterPriming s).clock = s.clock ∧ (enterPriming s).nodeStraps = s.nodeStraps ∧
      (enterPriming s).addressOffset = s.addressOffset ∧ (enterPriming s).cfg = s.cfg ∧
      (enterPriming s).pulse = s.pulse ∧ (enterPriming s).sensor = s.sensor ∧ (enterPriming s).conv = s.conv ∧
      (enterPriming s).tally = s.tally ∧ (enterPriming s).peers = s.peers ∧ (enterPriming s).dose = s.dose ∧
      (enterPriming s).filter = s.filter ∧ (enterPriming s).port = s.port ∧ (enterPriming s).pending = s.pending ∧
      (enterPriming s).choices = s.choices := by
  unfold enterPriming
  simp

@[simp] theorem enterPriming_reads (s : State) :
    (enterPriming s).nodeNumber = s.nodeNumber := by
  simp [State.nodeNumber]

@[simp] theorem park_frame (s : State) :
    (park s).clock = s.clock ∧ (park s).nodeStraps = s.nodeStraps ∧ (park s).addressOffset = s.addressOffset ∧
      (park s).cfg = s.cfg ∧ (park s).pulse = s.pulse ∧ (park s).sensor = s.sensor ∧ (park s).conv = s.conv ∧
      (park s).filter = s.filter ∧ (park s).port = s.port ∧ (park s).pending = s.pending ∧
      (park s).choices = s.choices := by
  unfold park
  simp

@[simp] theorem park_reads (s : State) :
    (park s).nodeNumber = s.nodeNumber := by
  simp [State.nodeNumber]

@[simp] theorem clearLatches_frame (s : State) :
    (clearLatches s).clock = s.clock ∧ (clearLatches s).nodeStraps = s.nodeStraps ∧
      (clearLatches s).addressOffset = s.addressOffset ∧ (clearLatches s).cfg = s.cfg ∧
      (clearLatches s).pulse = s.pulse ∧ (clearLatches s).sensor = s.sensor ∧ (clearLatches s).conv = s.conv ∧
      (clearLatches s).tally = s.tally ∧ (clearLatches s).peers = s.peers ∧ (clearLatches s).dose = s.dose ∧
      (clearLatches s).pump = s.pump ∧ (clearLatches s).filter = s.filter ∧ (clearLatches s).store = s.store ∧
      (clearLatches s).port = s.port ∧ (clearLatches s).pending = s.pending ∧ (clearLatches s).choices = s.choices := by
  unfold clearLatches
  simp

@[simp] theorem clearLatches_reads (s : State) :
    (clearLatches s).nodeNumber = s.nodeNumber ∧
      (clearLatches s).advertised = s.advertised := by
  simp [State.nodeNumber, State.advertised]


/-! ## START -/

@[simp] theorem takeConfiguration_frame (s : State) :
    (takeConfiguration s).clock = s.clock ∧ (takeConfiguration s).nodeStraps = s.nodeStraps ∧
      (takeConfiguration s).addressOffset = s.addressOffset ∧ (takeConfiguration s).pulse = s.pulse ∧
      (takeConfiguration s).sensor = s.sensor ∧ (takeConfiguration s).conv = s.conv ∧
      (takeConfiguration s).tally = s.tally ∧ (takeConfiguration s).peers = s.peers ∧
      (takeConfiguration s).dose = s.dose ∧ (takeConfiguration s).pump = s.pump ∧
      (takeConfiguration s).filter = s.filter ∧ (takeConfiguration s).store = s.store ∧
      (takeConfiguration s).pending = s.pending ∧ (takeConfiguration s).choices = s.choices := by
  unfold takeConfiguration
  simp

@[simp] theorem takeConfiguration_reads (s : State) :
    (takeConfiguration s).nodeNumber = s.nodeNumber := by
  simp [State.nodeNumber]

@[simp] theorem startMeasurement_frame (s : State) :
    (startMeasurement s).clock = s.clock ∧ (startMeasurement s).nodeStraps = s.nodeStraps ∧
      (startMeasurement s).addressOffset = s.addressOffset ∧ (startMeasurement s).cfg = s.cfg ∧
      (startMeasurement s).sensor = s.sensor ∧ (startMeasurement s).tally = s.tally ∧
      (startMeasurement s).peers = s.peers ∧ (startMeasurement s).dose = s.dose ∧
      (startMeasurement s).pump = s.pump ∧ (startMeasurement s).filter = s.filter ∧
      (startMeasurement s).store = s.store ∧ (startMeasurement s).port = s.port ∧
      (startMeasurement s).alarm = s.alarm ∧ (startMeasurement s).pending = s.pending ∧
      (startMeasurement s).choices = s.choices := by
  unfold startMeasurement
  simp

@[simp] theorem startMeasurement_reads (s : State) :
    (∀ z, (startMeasurement s).isTrue z = s.isTrue z) ∧
      (∀ z, (startMeasurement s).isLatched z = s.isLatched z) ∧
      (startMeasurement s).nodeNumber = s.nodeNumber ∧
      (startMeasurement s).advertised = s.advertised := by
  simp [State.isTrue, State.isLatched, State.nodeNumber, State.advertised]

@[simp] theorem startSharing_frame (s : State) :
    (startSharing s).clock = s.clock ∧ (startSharing s).nodeStraps = s.nodeStraps ∧
      (startSharing s).addressOffset = s.addressOffset ∧ (startSharing s).cfg = s.cfg ∧
      (startSharing s).pulse = s.pulse ∧ (startSharing s).sensor = s.sensor ∧ (startSharing s).conv = s.conv ∧
      (startSharing s).dose = s.dose ∧ (startSharing s).pump = s.pump ∧ (startSharing s).filter = s.filter ∧
      (startSharing s).port = s.port ∧ (startSharing s).pending = s.pending ∧ (startSharing s).choices = s.choices := by
  unfold startSharing
  simp

@[simp] theorem startSharing_reads (s : State) :
    (startSharing s).nodeNumber = s.nodeNumber ∧
      (startSharing s).advertised = s.advertised := by
  simp [State.nodeNumber, State.advertised]

@[simp] theorem startPump_frame (s : State) :
    (startPump s).clock = s.clock ∧ (startPump s).nodeStraps = s.nodeStraps ∧
      (startPump s).addressOffset = s.addressOffset ∧ (startPump s).cfg = s.cfg ∧ (startPump s).pulse = s.pulse ∧
      (startPump s).sensor = s.sensor ∧ (startPump s).conv = s.conv ∧ (startPump s).tally = s.tally ∧
      (startPump s).peers = s.peers ∧ (startPump s).dose = s.dose ∧ (startPump s).filter = s.filter ∧
      (startPump s).port = s.port ∧ (startPump s).pending = s.pending ∧ (startPump s).choices = s.choices := by
  unfold startPump
  simp

@[simp] theorem startPump_reads (s : State) :
    (startPump s).nodeNumber = s.nodeNumber := by
  simp [State.nodeNumber]

@[simp] theorem startFilter_frame (s : State) :
    (startFilter s).clock = s.clock ∧ (startFilter s).nodeStraps = s.nodeStraps ∧
      (startFilter s).addressOffset = s.addressOffset ∧ (startFilter s).cfg = s.cfg ∧
      (startFilter s).pulse = s.pulse ∧ (startFilter s).sensor = s.sensor ∧ (startFilter s).conv = s.conv ∧
      (startFilter s).tally = s.tally ∧ (startFilter s).peers = s.peers ∧ (startFilter s).dose = s.dose ∧
      (startFilter s).pump = s.pump ∧ (startFilter s).store = s.store ∧ (startFilter s).port = s.port ∧
      (startFilter s).alarm = s.alarm ∧ (startFilter s).pending = s.pending ∧ (startFilter s).choices = s.choices := by
  unfold startFilter
  simp

@[simp] theorem startFilter_reads (s : State) :
    (∀ z, (startFilter s).isTrue z = s.isTrue z) ∧
      (∀ z, (startFilter s).isLatched z = s.isLatched z) ∧
      (startFilter s).nodeNumber = s.nodeNumber ∧
      (startFilter s).advertised = s.advertised := by
  simp [State.isTrue, State.isLatched, State.nodeNumber, State.advertised]

@[simp] theorem startIntervals_frame (s : State) :
    (startIntervals s).clock = s.clock ∧ (startIntervals s).nodeStraps = s.nodeStraps ∧
      (startIntervals s).addressOffset = s.addressOffset ∧ (startIntervals s).cfg = s.cfg ∧
      (startIntervals s).pulse = s.pulse ∧ (startIntervals s).sensor = s.sensor ∧ (startIntervals s).conv = s.conv ∧
      (startIntervals s).tally = s.tally ∧ (startIntervals s).peers = s.peers ∧ (startIntervals s).dose = s.dose ∧
      (startIntervals s).pump = s.pump ∧ (startIntervals s).filter = s.filter ∧ (startIntervals s).port = s.port ∧
      (startIntervals s).alarm = s.alarm ∧ (startIntervals s).pending = s.pending ∧
      (startIntervals s).choices = s.choices := by
  unfold startIntervals
  simp

@[simp] theorem startIntervals_reads (s : State) :
    (∀ z, (startIntervals s).isTrue z = s.isTrue z) ∧
      (∀ z, (startIntervals s).isLatched z = s.isLatched z) ∧
      (startIntervals s).nodeNumber = s.nodeNumber ∧
      (startIntervals s).advertised = s.advertised := by
  simp [State.isTrue, State.isLatched, State.nodeNumber, State.advertised]

@[simp] theorem startNode_frame (s : State) :
    (startNode s).clock = s.clock ∧ (startNode s).nodeStraps = s.nodeStraps ∧
      (startNode s).addressOffset = s.addressOffset ∧ (startNode s).dose = s.dose ∧
      (startNode s).pending = s.pending ∧ (startNode s).choices = s.choices := by
  unfold startNode
  simp

@[simp] theorem startNode_reads (s : State) :
    (startNode s).nodeNumber = s.nodeNumber := by
  simp [State.nodeNumber]

end Sys2Proof.Machine
end

