-- ==== Sys2Proof/Laws/Parts.lean ====
section
/-! SUPPORT. What a shared operation keeps of a block that it touches: one lemma per operation, tagged for simp. -/

namespace Sys2Proof.Machine

@[simp] theorem raise_keeps (c : Cond) (s : State) :
    (raise c s).alarm.mask1 = s.alarm.mask1 ∧ (raise c s).alarm.mask2 = s.alarm.mask2 := by
  unfold raise
  simp

@[simp] theorem rise_keeps (c : Cond) (s : State) :
    (rise c s).alarm.mask1 = s.alarm.mask1 ∧ (rise c s).alarm.mask2 = s.alarm.mask2 := by
  unfold rise
  simp

@[simp] theorem fall_keeps (c : Cond) (s : State) :
    (fall c s).alarm.mask1 = s.alarm.mask1 ∧ (fall c s).alarm.mask2 = s.alarm.mask2 := by
  unfold fall
  simp

@[simp] theorem setLevel_keeps (c : Cond) (v : Bool) (s : State) :
    (setLevel c v s).alarm.mask1 = s.alarm.mask1 ∧ (setLevel c v s).alarm.mask2 = s.alarm.mask2 := by
  unfold setLevel
  (repeat' split) <;> simp

@[simp] theorem onInterval_keeps (f : CurrentInterval → CurrentInterval) (s : State) :
    (onInterval f s).store.ring = s.store.ring ∧ (onInterval f s).store.nextSequence = s.store.nextSequence ∧
      (onInterval f s).store.cursor = s.store.cursor ∧ (onInterval f s).store.timerStart = s.store.timerStart ∧
      (onInterval f s).store.header = s.store.header ∧ (onInterval f s).store.current.isSome = s.store.current.isSome := by
  unfold onInterval
  simp

@[simp] theorem setFlag_keeps (f : Flag) (s : State) :
    (setFlag f s).store.ring = s.store.ring ∧ (setFlag f s).store.nextSequence = s.store.nextSequence ∧
      (setFlag f s).store.cursor = s.store.cursor ∧ (setFlag f s).store.timerStart = s.store.timerStart ∧
      (setFlag f s).store.header = s.store.header ∧ (setFlag f s).store.current.isSome = s.store.current.isSome := by
  unfold setFlag
  simp

@[simp] theorem setFlagIf_keeps (v : Bool) (f : Flag) (s : State) :
    (setFlagIf v f s).store.ring = s.store.ring ∧ (setFlagIf v f s).store.nextSequence = s.store.nextSequence ∧
      (setFlagIf v f s).store.cursor = s.store.cursor ∧ (setFlagIf v f s).store.timerStart = s.store.timerStart ∧
      (setFlagIf v f s).store.header = s.store.header ∧
      (setFlagIf v f s).store.current.isSome = s.store.current.isSome := by
  unfold setFlagIf
  (repeat' split) <;> simp

@[simp] theorem raiseIf_keeps (v : Bool) (c : Cond) (f : Flag) (s : State) :
    (raiseIf v c f s).alarm.mask1 = s.alarm.mask1 ∧ (raiseIf v c f s).alarm.mask2 = s.alarm.mask2 ∧
      (raiseIf v c f s).store.ring = s.store.ring ∧ (raiseIf v c f s).store.nextSequence = s.store.nextSequence ∧
      (raiseIf v c f s).store.cursor = s.store.cursor ∧ (raiseIf v c f s).store.timerStart = s.store.timerStart ∧
      (raiseIf v c f s).store.header = s.store.header ∧
      (raiseIf v c f s).store.current.isSome = s.store.current.isSome := by
  unfold raiseIf
  (repeat' split) <;> simp

@[simp] theorem setLevelFlag_keeps (c : Cond) (f : Flag) (v : Bool) (s : State) :
    (setLevelFlag c f v s).alarm.mask1 = s.alarm.mask1 ∧ (setLevelFlag c f v s).alarm.mask2 = s.alarm.mask2 ∧
      (setLevelFlag c f v s).store.ring = s.store.ring ∧
      (setLevelFlag c f v s).store.nextSequence = s.store.nextSequence ∧
      (setLevelFlag c f v s).store.cursor = s.store.cursor ∧
      (setLevelFlag c f v s).store.timerStart = s.store.timerStart ∧
      (setLevelFlag c f v s).store.header = s.store.header ∧
      (setLevelFlag c f v s).store.current.isSome = s.store.current.isSome := by
  unfold setLevelFlag
  simp

@[simp] theorem reportPump_keeps (s : State) :
    (reportPump s).alarm.mask1 = s.alarm.mask1 ∧ (reportPump s).alarm.mask2 = s.alarm.mask2 ∧
      (reportPump s).store.ring = s.store.ring ∧ (reportPump s).store.nextSequence = s.store.nextSequence ∧
      (reportPump s).store.cursor = s.store.cursor ∧ (reportPump s).store.timerStart = s.store.timerStart ∧
      (reportPump s).store.header = s.store.header ∧ (reportPump s).store.current.isSome = s.store.current.isSome := by
  unfold reportPump
  simp

@[simp] theorem testWatermarks_keeps (s : State) :
    (testWatermarks s).pump.condition = s.pump.condition ∧ (testWatermarks s).pump.stroke = s.pump.stroke ∧
      (testWatermarks s).pump.history = s.pump.history ∧ (testWatermarks s).pump.lastStart = s.pump.lastStart ∧
      (testWatermarks s).pump.missCount = s.pump.missCount ∧
      (testWatermarks s).pump.primeRemaining = s.pump.primeRemaining ∧
      (testWatermarks s).pump.started = s.pump.started ∧ (testWatermarks s).pump.confirmed = s.pump.confirmed ∧
      (testWatermarks s).pump.primed = s.pump.primed ∧ (testWatermarks s).pump.missed = s.pump.missed ∧
      (testWatermarks s).pump.stray = s.pump.stray ∧ (testWatermarks s).pump.level = s.pump.level := by
  unfold testWatermarks
  dsimp only
  (repeat' split) <;> simp

@[simp] theorem setDebt_keeps (x : Nat) (s : State) :
    (setDebt x s).alarm.mask1 = s.alarm.mask1 ∧ (setDebt x s).alarm.mask2 = s.alarm.mask2 ∧
      (setDebt x s).store.ring = s.store.ring ∧ (setDebt x s).store.nextSequence = s.store.nextSequence ∧
      (setDebt x s).store.cursor = s.store.cursor ∧ (setDebt x s).store.timerStart = s.store.timerStart ∧
      (setDebt x s).store.header = s.store.header ∧ (setDebt x s).store.current.isSome = s.store.current.isSome ∧
      (setDebt x s).pump.condition = s.pump.condition ∧ (setDebt x s).pump.stroke = s.pump.stroke ∧
      (setDebt x s).pump.history = s.pump.history ∧ (setDebt x s).pump.lastStart = s.pump.lastStart ∧
      (setDebt x s).pump.missCount = s.pump.missCount ∧ (setDebt x s).pump.primeRemaining = s.pump.primeRemaining ∧
      (setDebt x s).pump.started = s.pump.started ∧ (setDebt x s).pump.confirmed = s.pump.confirmed ∧
      (setDebt x s).pump.primed = s.pump.primed ∧ (setDebt x s).pump.missed = s.pump.missed ∧
      (setDebt x s).pump.stray = s.pump.stray ∧ (setDebt x s).pump.level = s.pump.level ∧
      (setDebt x s).dose.delivered = s.dose.delivered ∧ (setDebt x s).dose.excess = s.dose.excess ∧
      (setDebt x s).dose.debited = s.dose.debited := by
  unfold setDebt
  (repeat' split) <;> simp

@[simp] theorem setCondition_keeps (c : PumpCondition) (s : State) :
    (setCondition c s).alarm.mask1 = s.alarm.mask1 ∧ (setCondition c s).alarm.mask2 = s.alarm.mask2 ∧
      (setCondition c s).store.ring = s.store.ring ∧ (setCondition c s).store.nextSequence = s.store.nextSequence ∧
      (setCondition c s).store.cursor = s.store.cursor ∧ (setCondition c s).store.timerStart = s.store.timerStart ∧
      (setCondition c s).store.header = s.store.header ∧
      (setCondition c s).store.current.isSome = s.store.current.isSome ∧
      (setCondition c s).pump.history = s.pump.history ∧ (setCondition c s).pump.lastStart = s.pump.lastStart ∧
      (setCondition c s).pump.missCount = s.pump.missCount ∧
      (setCondition c s).pump.primeRemaining = s.pump.primeRemaining ∧
      (setCondition c s).pump.behind = s.pump.behind ∧ (setCondition c s).pump.strained = s.pump.strained ∧
      (setCondition c s).pump.started = s.pump.started ∧ (setCondition c s).pump.confirmed = s.pump.confirmed ∧
      (setCondition c s).pump.primed = s.pump.primed ∧ (setCondition c s).pump.missed = s.pump.missed ∧
      (setCondition c s).pump.stray = s.pump.stray ∧ (setCondition c s).pump.level = s.pump.level := by
  unfold setCondition
  simp

@[simp] theorem addReleased_keeps (x : Nat) (s : State) :
    (addReleased x s).store.ring = s.store.ring ∧ (addReleased x s).store.nextSequence = s.store.nextSequence ∧
      (addReleased x s).store.cursor = s.store.cursor ∧ (addReleased x s).store.timerStart = s.store.timerStart ∧
      (addReleased x s).store.header = s.store.header ∧
      (addReleased x s).store.current.isSome = s.store.current.isSome ∧
      (addReleased x s).dose.delivered = s.dose.delivered ∧ (addReleased x s).dose.excess = s.dose.excess ∧
      (addReleased x s).dose.debited = s.dose.debited := by
  unfold addReleased
  simp

@[simp] theorem release_keeps (s : State) :
    (release s).alarm.mask1 = s.alarm.mask1 ∧ (release s).alarm.mask2 = s.alarm.mask2 ∧
      (release s).store.ring = s.store.ring ∧ (release s).store.nextSequence = s.store.nextSequence ∧
      (release s).store.cursor = s.store.cursor ∧ (release s).store.timerStart = s.store.timerStart ∧
      (release s).store.header = s.store.header ∧ (release s).store.current.isSome = s.store.current.isSome ∧
      (release s).pump.condition = s.pump.condition ∧ (release s).pump.stroke = s.pump.stroke ∧
      (release s).pump.history = s.pump.history ∧ (release s).pump.lastStart = s.pump.lastStart ∧
      (release s).pump.missCount = s.pump.missCount ∧ (release s).pump.primeRemaining = s.pump.primeRemaining ∧
      (release s).pump.started = s.pump.started ∧ (release s).pump.confirmed = s.pump.confirmed ∧
      (release s).pump.primed = s.pump.primed ∧ (release s).pump.missed = s.pump.missed ∧
      (release s).pump.stray = s.pump.stray ∧ (release s).pump.level = s.pump.level ∧
      (release s).dose.delivered = s.dose.delivered ∧ (release s).dose.excess = s.dose.excess ∧
      (release s).dose.debited = s.dose.debited := by
  unfold release
  (repeat' split) <;> simp

@[simp] theorem takeIntoDebt_keeps (x : Nat) (s : State) :
    (takeIntoDebt x s).alarm.mask1 = s.alarm.mask1 ∧ (takeIntoDebt x s).alarm.mask2 = s.alarm.mask2 ∧
      (takeIntoDebt x s).store.ring = s.store.ring ∧ (takeIntoDebt x s).store.nextSequence = s.store.nextSequence ∧
      (takeIntoDebt x s).store.cursor = s.store.cursor ∧ (takeIntoDebt x s).store.timerStart = s.store.timerStart ∧
      (takeIntoDebt x s).store.header = s.store.header ∧
      (takeIntoDebt x s).store.current.isSome = s.store.current.isSome ∧
      (takeIntoDebt x s).pump.condition = s.pump.condition ∧ (takeIntoDebt x s).pump.stroke = s.pump.stroke ∧
      (takeIntoDebt x s).pump.history = s.pump.history ∧ (takeIntoDebt x s).pump.lastStart = s.pump.lastStart ∧
      (takeIntoDebt x s).pump.missCount = s.pump.missCount ∧
      (takeIntoDebt x s).pump.primeRemaining = s.pump.primeRemaining ∧
      (takeIntoDebt x s).pump.started = s.pump.started ∧ (takeIntoDebt x s).pump.confirmed = s.pump.confirmed ∧
      (takeIntoDebt x s).pump.primed = s.pump.primed ∧ (takeIntoDebt x s).pump.missed = s.pump.missed ∧
      (takeIntoDebt x s).pump.stray = s.pump.stray ∧ (takeIntoDebt x s).pump.level = s.pump.level ∧
      (takeIntoDebt x s).dose.delivered = s.dose.delivered ∧ (takeIntoDebt x s).dose.excess = s.dose.excess ∧
      (takeIntoDebt x s).dose.debited = s.dose.debited := by
  unfold takeIntoDebt
  (repeat' split) <;> simp

@[simp] theorem landCharge_keeps (x : Nat) (s : State) :
    (landCharge x s).alarm.mask1 = s.alarm.mask1 ∧ (landCharge x s).alarm.mask2 = s.alarm.mask2 ∧
      (landCharge x s).store.ring = s.store.ring ∧ (landCharge x s).store.nextSequence = s.store.nextSequence ∧
      (landCharge x s).store.cursor = s.store.cursor ∧ (landCharge x s).store.timerStart = s.store.timerStart ∧
      (landCharge x s).store.header = s.store.header ∧
      (landCharge x s).store.current.isSome = s.store.current.isSome ∧
      (landCharge x s).pump.condition = s.pump.condition ∧ (landCharge x s).pump.stroke = s.pump.stroke ∧
      (landCharge x s).pump.history = s.pump.history ∧ (landCharge x s).pump.lastStart = s.pump.lastStart ∧
      (landCharge x s).pump.missCount = s.pump.missCount ∧
      (landCharge x s).pump.primeRemaining = s.pump.primeRemaining ∧ (landCharge x s).pump.started = s.pump.started ∧
      (landCharge x s).pump.confirmed = s.pump.confirmed ∧ (landCharge x s).pump.primed = s.pump.primed ∧
      (landCharge x s).pump.missed = s.pump.missed ∧ (landCharge x s).pump.stray = s.pump.stray ∧
      (landCharge x s).pump.level = s.pump.level ∧ (landCharge x s).dose.delivered = s.dose.delivered ∧
      (landCharge x s).dose.excess = s.dose.excess ∧ (landCharge x s).dose.debited = s.dose.debited := by
  unfold landCharge
  (repeat' split) <;> simp

@[simp] theorem charge_keeps (w : Nat) (s : State) :
    (charge w s).alarm.mask1 = s.alarm.mask1 ∧ (charge w s).alarm.mask2 = s.alarm.mask2 ∧
      (charge w s).store.ring = s.store.ring ∧ (charge w s).store.nextSequence = s.store.nextSequence ∧
      (charge w s).store.cursor = s.store.cursor ∧ (charge w s).store.timerStart = s.store.timerStart ∧
      (charge w s).store.header = s.store.header ∧ (charge w s).store.current.isSome = s.store.current.isSome ∧
      (charge w s).pump.condition = s.pump.condition ∧ (charge w s).pump.stroke = s.pump.stroke ∧
      (charge w s).pump.history = s.pump.history ∧ (charge w s).pump.lastStart = s.pump.lastStart ∧
      (charge w s).pump.missCount = s.pump.missCount ∧ (charge w s).pump.primeRemaining = s.pump.primeRemaining ∧
      (charge w s).pump.started = s.pump.started ∧ (charge w s).pump.confirmed = s.pump.confirmed ∧
      (charge w s).pump.primed = s.pump.primed ∧ (charge w s).pump.missed = s.pump.missed ∧
      (charge w s).pump.stray = s.pump.stray ∧ (charge w s).pump.level = s.pump.level ∧
      (charge w s).dose.delivered = s.dose.delivered ∧ (charge w s).dose.excess = s.dose.excess ∧
      (charge w s).dose.debited = s.dose.debited := by
  unfold charge
  simp

@[simp] theorem peerCharge_keeps (d : Nat) (s : State) :
    (peerCharge d s).alarm.mask1 = s.alarm.mask1 ∧ (peerCharge d s).alarm.mask2 = s.alarm.mask2 ∧
      (peerCharge d s).store.ring = s.store.ring ∧ (peerCharge d s).store.nextSequence = s.store.nextSequence ∧
      (peerCharge d s).store.cursor = s.store.cursor ∧ (peerCharge d s).store.timerStart = s.store.timerStart ∧
      (peerCharge d s).store.header = s.store.header ∧
      (peerCharge d s).store.current.isSome = s.store.current.isSome ∧
      (peerCharge d s).pump.condition = s.pump.condition ∧ (peerCharge d s).pump.stroke = s.pump.stroke ∧
      (peerCharge d s).pump.history = s.pump.history ∧ (peerCharge d s).pump.lastStart = s.pump.lastStart ∧
      (peerCharge d s).pump.missCount = s.pump.missCount ∧
      (peerCharge d s).pump.primeRemaining = s.pump.primeRemaining ∧ (peerCharge d s).pump.started = s.pump.started ∧
      (peerCharge d s).pump.confirmed = s.pump.confirmed ∧ (peerCharge d s).pump.primed = s.pump.primed ∧
      (peerCharge d s).pump.missed = s.pump.missed ∧ (peerCharge d s).pump.stray = s.pump.stray ∧
      (peerCharge d s).pump.level = s.pump.level ∧ (peerCharge d s).dose.delivered = s.dose.delivered ∧
      (peerCharge d s).dose.excess = s.dose.excess ∧ (peerCharge d s).dose.debited = s.dose.debited := by
  unfold peerCharge
  simp

@[simp] theorem addUndosed_keeps (v : Nat) (s : State) :
    (addUndosed v s).alarm.mask1 = s.alarm.mask1 ∧ (addUndosed v s).alarm.mask2 = s.alarm.mask2 ∧
      (addUndosed v s).store.ring = s.store.ring ∧ (addUndosed v s).store.nextSequence = s.store.nextSequence ∧
      (addUndosed v s).store.cursor = s.store.cursor ∧ (addUndosed v s).store.timerStart = s.store.timerStart ∧
      (addUndosed v s).store.header = s.store.header ∧
      (addUndosed v s).store.current.isSome = s.store.current.isSome ∧
      (addUndosed v s).dose.delivered = s.dose.delivered ∧ (addUndosed v s).dose.excess = s.dose.excess ∧
      (addUndosed v s).dose.debited = s.dose.debited := by
  unfold addUndosed
  simp

@[simp] theorem recordOwnCycle_keeps (c : OwnCycle) (s : State) :
    (recordOwnCycle c s).dose.delivered = s.dose.delivered ∧ (recordOwnCycle c s).dose.excess = s.dose.excess ∧
      (recordOwnCycle c s).dose.debited = s.dose.debited := by
  unfold recordOwnCycle
  simp

@[simp] theorem ownCycleEvent_keeps (n : BitVec 32) (v : Nat) (s : State) :
    (ownCycleEvent n v s).alarm.mask1 = s.alarm.mask1 ∧ (ownCycleEvent n v s).alarm.mask2 = s.alarm.mask2 ∧
      (ownCycleEvent n v s).store.ring = s.store.ring ∧
      (ownCycleEvent n v s).store.nextSequence = s.store.nextSequence ∧
      (ownCycleEvent n v s).store.cursor = s.store.cursor ∧
      (ownCycleEvent n v s).store.timerStart = s.store.timerStart ∧
      (ownCycleEvent n v s).store.header = s.store.header ∧
      (ownCycleEvent n v s).store.current.isSome = s.store.current.isSome ∧
      (ownCycleEvent n v s).pump.condition = s.pump.condition ∧ (ownCycleEvent n v s).pump.stroke = s.pump.stroke ∧
      (ownCycleEvent n v s).pump.history = s.pump.history ∧ (ownCycleEvent n v s).pump.lastStart = s.pump.lastStart ∧
      (ownCycleEvent n v s).pump.missCount = s.pump.missCount ∧
      (ownCycleEvent n v s).pump.primeRemaining = s.pump.primeRemaining ∧
      (ownCycleEvent n v s).pump.started = s.pump.started ∧ (ownCycleEvent n v s).pump.confirmed = s.pump.confirmed ∧
      (ownCycleEvent n v s).pump.primed = s.pump.primed ∧ (ownCycleEvent n v s).pump.missed = s.pump.missed ∧
      (ownCycleEvent n v s).pump.stray = s.pump.stray ∧ (ownCycleEvent n v s).pump.level = s.pump.level ∧
      (ownCycleEvent n v s).dose.delivered = s.dose.delivered ∧ (ownCycleEvent n v s).dose.excess = s.dose.excess ∧
      (ownCycleEvent n v s).dose.debited = s.dose.debited := by
  unfold ownCycleEvent
  (repeat' split) <;> simp

@[simp] theorem adopt_keeps (k : AdoptionKind) (p o x : Nat) (s : State) :
    (adopt k p o x s).alarm.mask1 = s.alarm.mask1 ∧ (adopt k p o x s).alarm.mask2 = s.alarm.mask2 ∧
      (adopt k p o x s).store.ring = s.store.ring ∧ (adopt k p o x s).store.nextSequence = s.store.nextSequence ∧
      (adopt k p o x s).store.cursor = s.store.cursor ∧ (adopt k p o x s).store.timerStart = s.store.timerStart ∧
      (adopt k p o x s).store.header = s.store.header ∧
      (adopt k p o x s).store.current.isSome = s.store.current.isSome ∧
      (adopt k p o x s).pump.condition = s.pump.condition ∧ (adopt k p o x s).pump.stroke = s.pump.stroke ∧
      (adopt k p o x s).pump.history = s.pump.history ∧ (adopt k p o x s).pump.lastStart = s.pump.lastStart ∧
      (adopt k p o x s).pump.missCount = s.pump.missCount ∧
      (adopt k p o x s).pump.primeRemaining = s.pump.primeRemaining ∧
      (adopt k p o x s).pump.started = s.pump.started ∧ (adopt k p o x s).pump.confirmed = s.pump.confirmed ∧
      (adopt k p o x s).pump.primed = s.pump.primed ∧ (adopt k p o x s).pump.missed = s.pump.missed ∧
      (adopt k p o x s).pump.stray = s.pump.stray ∧ (adopt k p o x s).pump.level = s.pump.level ∧
      (adopt k p o x s).dose.delivered = s.dose.delivered ∧ (adopt k p o x s).dose.excess = s.dose.excess ∧
      (adopt k p o x s).dose.debited = s.dose.debited := by
  unfold adopt
  simp

@[simp] theorem surrender_keeps (s : State) :
    (surrender s).alarm.mask1 = s.alarm.mask1 ∧ (surrender s).alarm.mask2 = s.alarm.mask2 ∧
      (surrender s).store.ring = s.store.ring ∧ (surrender s).store.nextSequence = s.store.nextSequence ∧
      (surrender s).store.cursor = s.store.cursor ∧ (surrender s).store.timerStart = s.store.timerStart ∧
      (surrender s).store.header = s.store.header ∧ (surrender s).store.current.isSome = s.store.current.isSome ∧
      (surrender s).pump.condition = s.pump.condition ∧ (surrender s).pump.stroke = s.pump.stroke ∧
      (surrender s).pump.history = s.pump.history ∧ (surrender s).pump.lastStart = s.pump.lastStart ∧
      (surrender s).pump.missCount = s.pump.missCount ∧ (surrender s).pump.primeRemaining = s.pump.primeRemaining ∧
      (surrender s).pump.started = s.pump.started ∧ (surrender s).pump.confirmed = s.pump.confirmed ∧
      (surrender s).pump.primed = s.pump.primed ∧ (surrender s).pump.missed = s.pump.missed ∧
      (surrender s).pump.stray = s.pump.stray ∧ (surrender s).pump.level = s.pump.level ∧
      (surrender s).dose.delivered = s.dose.delivered ∧ (surrender s).dose.excess = s.dose.excess ∧
      (surrender s).dose.debited = s.dose.debited := by
  unfold surrender
  simp

@[simp] theorem addDelivered_keeps (x : Nat) (s : State) :
    (addDelivered x s).filter.periodStart = s.filter.periodStart ∧
      (addDelivered x s).filter.average = s.filter.average ∧
      (addDelivered x s).filter.lastSample = s.filter.lastSample ∧
      (addDelivered x s).filter.lastClamped = s.filter.lastClamped ∧
      (addDelivered x s).filter.sampledPeriods = s.filter.sampledPeriods ∧
      (addDelivered x s).filter.carriedPeriods = s.filter.carriedPeriods ∧
      (addDelivered x s).filter.consecutiveCarried = s.filter.consecutiveCarried ∧
      (addDelivered x s).filter.throttled = s.filter.throttled ∧ (addDelivered x s).filter.dwell = s.filter.dwell ∧
      (addDelivered x s).filter.concLow = s.filter.concLow := by
  unfold addDelivered
  simp

@[simp] theorem addHeader_keeps (v : Nat) (s : State) :
    (addHeader v s).store.ring = s.store.ring ∧ (addHeader v s).store.nextSequence = s.store.nextSequence ∧
      (addHeader v s).store.cursor = s.store.cursor ∧ (addHeader v s).store.timerStart = s.store.timerStart ∧
      (addHeader v s).store.current.isSome = s.store.current.isSome ∧
      (addHeader v s).filter.periodStart = s.filter.periodStart ∧ (addHeader v s).filter.average = s.filter.average ∧
      (addHeader v s).filter.lastSample = s.filter.lastSample ∧
      (addHeader v s).filter.lastClamped = s.filter.lastClamped ∧
      (addHeader v s).filter.sampledPeriods = s.filter.sampledPeriods ∧
      (addHeader v s).filter.carriedPeriods = s.filter.carriedPeriods ∧
      (addHeader v s).filter.consecutiveCarried = s.filter.consecutiveCarried ∧
      (addHeader v s).filter.throttled = s.filter.throttled ∧ (addHeader v s).filter.dwell = s.filter.dwell ∧
      (addHeader v s).filter.concLow = s.filter.concLow := by
  unfold addHeader
  simp

@[simp] theorem debit_keeps (s : State) :
    (debit s).alarm.mask1 = s.alarm.mask1 ∧ (debit s).alarm.mask2 = s.alarm.mask2 ∧
      (debit s).store.ring = s.store.ring ∧ (debit s).store.nextSequence = s.store.nextSequence ∧
      (debit s).store.cursor = s.store.cursor ∧ (debit s).store.timerStart = s.store.timerStart ∧
      (debit s).store.header = s.store.header ∧ (debit s).store.current.isSome = s.store.current.isSome ∧
      (debit s).pump.condition = s.pump.condition ∧ (debit s).pump.stroke = s.pump.stroke ∧
      (debit s).pump.history = s.pump.history ∧ (debit s).pump.lastStart = s.pump.lastStart ∧
      (debit s).pump.missCount = s.pump.missCount ∧ (debit s).pump.primeRemaining = s.pump.primeRemaining ∧
      (debit s).pump.started = s.pump.started ∧ (debit s).pump.confirmed = s.pump.confirmed ∧
      (debit s).pump.primed = s.pump.primed ∧ (debit s).pump.missed = s.pump.missed ∧
      (debit s).pump.stray = s.pump.stray ∧ (debit s).pump.level = s.pump.level ∧
      (debit s).filter.periodStart = s.filter.periodStart ∧ (debit s).filter.average = s.filter.average ∧
      (debit s).filter.lastSample = s.filter.lastSample ∧ (debit s).filter.lastClamped = s.filter.lastClamped ∧
      (debit s).filter.sampledPeriods = s.filter.sampledPeriods ∧
      (debit s).filter.carriedPeriods = s.filter.carriedPeriods ∧
      (debit s).filter.consecutiveCarried = s.filter.consecutiveCarried ∧
      (debit s).filter.throttled = s.filter.throttled ∧ (debit s).filter.dwell = s.filter.dwell ∧
      (debit s).filter.concLow = s.filter.concLow := by
  unfold debit
  simp

@[simp] theorem beginStroke_keeps (s : State) :
    (beginStroke s).pump.condition = s.pump.condition ∧ (beginStroke s).pump.missCount = s.pump.missCount ∧
      (beginStroke s).pump.primeRemaining = s.pump.primeRemaining ∧ (beginStroke s).pump.behind = s.pump.behind ∧
      (beginStroke s).pump.strained = s.pump.strained ∧ (beginStroke s).pump.confirmed = s.pump.confirmed ∧
      (beginStroke s).pump.primed = s.pump.primed ∧ (beginStroke s).pump.missed = s.pump.missed ∧
      (beginStroke s).pump.stray = s.pump.stray ∧ (beginStroke s).pump.level = s.pump.level := by
  unfold beginStroke
  simp

@[simp] theorem testStart_keeps (s : State) :
    (testStart s).pump.condition = s.pump.condition ∧ (testStart s).pump.missCount = s.pump.missCount ∧
      (testStart s).pump.primeRemaining = s.pump.primeRemaining ∧ (testStart s).pump.behind = s.pump.behind ∧
      (testStart s).pump.strained = s.pump.strained ∧ (testStart s).pump.confirmed = s.pump.confirmed ∧
      (testStart s).pump.primed = s.pump.primed ∧ (testStart s).pump.missed = s.pump.missed ∧
      (testStart s).pump.stray = s.pump.stray ∧ (testStart s).pump.level = s.pump.level := by
  unfold testStart
  (repeat' split) <;> simp

@[simp] theorem startIfChanged_keeps (b : State) (s : State) :
    (startIfChanged b s).pump.condition = s.pump.condition ∧ (startIfChanged b s).pump.missCount = s.pump.missCount ∧
      (startIfChanged b s).pump.primeRemaining = s.pump.primeRemaining ∧
      (startIfChanged b s).pump.behind = s.pump.behind ∧ (startIfChanged b s).pump.strained = s.pump.strained ∧
      (startIfChanged b s).pump.confirmed = s.pump.confirmed ∧ (startIfChanged b s).pump.primed = s.pump.primed ∧
      (startIfChanged b s).pump.missed = s.pump.missed ∧ (startIfChanged b s).pump.stray = s.pump.stray ∧
      (startIfChanged b s).pump.level = s.pump.level := by
  unfold startIfChanged
  (repeat' split) <;> simp

@[simp] theorem setMode_keeps (m : Mode) (s : State) :
    (setMode m s).alarm.mask1 = s.alarm.mask1 ∧ (setMode m s).alarm.mask2 = s.alarm.mask2 ∧
      (setMode m s).store.ring = s.store.ring ∧ (setMode m s).store.nextSequence = s.store.nextSequence ∧
      (setMode m s).store.cursor = s.store.cursor ∧ (setMode m s).store.timerStart = s.store.timerStart ∧
      (setMode m s).store.header = s.store.header ∧ (setMode m s).store.current.isSome = s.store.current.isSome ∧
      (setMode m s).peers.entries = s.peers.entries := by
  unfold setMode
  simp

@[simp] theorem leaveShared_keeps (c : SoloCause) (s : State) :
    (leaveShared c s).alarm.mask1 = s.alarm.mask1 ∧ (leaveShared c s).alarm.mask2 = s.alarm.mask2 ∧
      (leaveShared c s).store.ring = s.store.ring ∧ (leaveShared c s).store.nextSequence = s.store.nextSequence ∧
      (leaveShared c s).store.cursor = s.store.cursor ∧ (leaveShared c s).store.timerStart = s.store.timerStart ∧
      (leaveShared c s).store.header = s.store.header ∧
      (leaveShared c s).store.current.isSome = s.store.current.isSome ∧
      (leaveShared c s).pump.condition = s.pump.condition ∧ (leaveShared c s).pump.missCount = s.pump.missCount ∧
      (leaveShared c s).pump.primeRemaining = s.pump.primeRemaining ∧
      (leaveShared c s).pump.confirmed = s.pump.confirmed ∧ (leaveShared c s).pump.primed = s.pump.primed ∧
      (leaveShared c s).pump.missed = s.pump.missed ∧ (leaveShared c s).pump.stray = s.pump.stray ∧
      (leaveShared c s).pump.level = s.pump.level ∧ (leaveShared c s).peers.entries = s.peers.entries ∧
      (leaveShared c s).dose.delivered = s.dose.delivered ∧ (leaveShared c s).dose.excess = s.dose.excess ∧
      (leaveShared c s).dose.debited = s.dose.debited := by
  unfold leaveShared
  simp

@[simp] theorem aloneIfNone_keeps (s : State) :
    (aloneIfNone s).alarm.mask1 = s.alarm.mask1 ∧ (aloneIfNone s).alarm.mask2 = s.alarm.mask2 ∧
      (aloneIfNone s).store.ring = s.store.ring ∧ (aloneIfNone s).store.nextSequence = s.store.nextSequence ∧
      (aloneIfNone s).store.cursor = s.store.cursor ∧ (aloneIfNone s).store.timerStart = s.store.timerStart ∧
      (aloneIfNone s).store.header = s.store.header ∧ (aloneIfNone s).store.current.isSome = s.store.current.isSome ∧
      (aloneIfNone s).pump.condition = s.pump.condition ∧ (aloneIfNone s).pump.missCount = s.pump.missCount ∧
      (aloneIfNone s).pump.primeRemaining = s.pump.primeRemaining ∧
      (aloneIfNone s).pump.confirmed = s.pump.confirmed ∧ (aloneIfNone s).pump.primed = s.pump.primed ∧
      (aloneIfNone s).pump.missed = s.pump.missed ∧ (aloneIfNone s).pump.stray = s.pump.stray ∧
      (aloneIfNone s).pump.level = s.pump.level ∧ (aloneIfNone s).peers.entries = s.peers.entries ∧
      (aloneIfNone s).dose.delivered = s.dose.delivered ∧ (aloneIfNone s).dose.excess = s.dose.excess ∧
      (aloneIfNone s).dose.debited = s.dose.debited := by
  unfold aloneIfNone
  (repeat' split) <;> simp

@[simp] theorem noteLiveCount_keeps (s : State) :
    (noteLiveCount s).store.ring = s.store.ring ∧ (noteLiveCount s).store.nextSequence = s.store.nextSequence ∧
      (noteLiveCount s).store.cursor = s.store.cursor ∧ (noteLiveCount s).store.timerStart = s.store.timerStart ∧
      (noteLiveCount s).store.header = s.store.header ∧
      (noteLiveCount s).store.current.isSome = s.store.current.isSome := by
  unfold noteLiveCount
  simp

@[simp] theorem setSwitchPending_keeps (v : Bool) (s : State) :
    (setSwitchPending v s).peers.entries = s.peers.entries := by
  unfold setSwitchPending
  simp

@[simp] theorem testLinkFault_keeps (s : State) :
    (testLinkFault s).alarm.mask1 = s.alarm.mask1 ∧ (testLinkFault s).alarm.mask2 = s.alarm.mask2 := by
  unfold testLinkFault
  simp

@[simp] theorem countAbandoned_keeps (r : Bool) (s : State) :
    (countAbandoned r s).alarm.mask1 = s.alarm.mask1 ∧ (countAbandoned r s).alarm.mask2 = s.alarm.mask2 := by
  unfold countAbandoned
  simp

@[simp] theorem fallDue_keeps (k : Owed) (s : State) :
    (fallDue k s).alarm.mask1 = s.alarm.mask1 ∧ (fallDue k s).alarm.mask2 = s.alarm.mask2 := by
  unfold fallDue
  (repeat' split) <;> simp

@[simp] theorem switchToShared_keeps (d : BitVec 32) (s : State) :
    (switchToShared d s).alarm.mask1 = s.alarm.mask1 ∧ (switchToShared d s).alarm.mask2 = s.alarm.mask2 ∧
      (switchToShared d s).store.ring = s.store.ring ∧
      (switchToShared d s).store.nextSequence = s.store.nextSequence ∧
      (switchToShared d s).store.cursor = s.store.cursor ∧
      (switchToShared d s).store.timerStart = s.store.timerStart ∧
      (switchToShared d s).store.header = s.store.header ∧
      (switchToShared d s).store.current.isSome = s.store.current.isSome ∧
      (switchToShared d s).pump.condition = s.pump.condition ∧
      (switchToShared d s).pump.missCount = s.pump.missCount ∧
      (switchToShared d s).pump.primeRemaining = s.pump.primeRemaining ∧
      (switchToShared d s).pump.confirmed = s.pump.confirmed ∧ (switchToShared d s).pump.primed = s.pump.primed ∧
      (switchToShared d s).pump.missed = s.pump.missed ∧ (switchToShared d s).pump.stray = s.pump.stray ∧
      (switchToShared d s).pump.level = s.pump.level ∧ (switchToShared d s).peers.entries = s.peers.entries ∧
      (switchToShared d s).dose.delivered = s.dose.delivered ∧ (switchToShared d s).dose.excess = s.dose.excess ∧
      (switchToShared d s).dose.debited = s.dose.debited := by
  unfold switchToShared
  simp

@[simp] theorem reportSent_keeps (p : Pending) (s : State) :
    (reportSent p s).alarm.mask1 = s.alarm.mask1 ∧ (reportSent p s).alarm.mask2 = s.alarm.mask2 ∧
      (reportSent p s).store.ring = s.store.ring ∧ (reportSent p s).store.nextSequence = s.store.nextSequence ∧
      (reportSent p s).store.cursor = s.store.cursor ∧ (reportSent p s).store.timerStart = s.store.timerStart ∧
      (reportSent p s).store.header = s.store.header ∧
      (reportSent p s).store.current.isSome = s.store.current.isSome ∧
      (reportSent p s).pump.condition = s.pump.condition ∧ (reportSent p s).pump.missCount = s.pump.missCount ∧
      (reportSent p s).pump.primeRemaining = s.pump.primeRemaining ∧
      (reportSent p s).pump.confirmed = s.pump.confirmed ∧ (reportSent p s).pump.primed = s.pump.primed ∧
      (reportSent p s).pump.missed = s.pump.missed ∧ (reportSent p s).pump.stray = s.pump.stray ∧
      (reportSent p s).pump.level = s.pump.level ∧ (reportSent p s).peers.entries = s.peers.entries ∧
      (reportSent p s).dose.delivered = s.dose.delivered ∧ (reportSent p s).dose.excess = s.dose.excess ∧
      (reportSent p s).dose.debited = s.dose.debited := by
  unfold reportSent
  (repeat' split) <;> simp

@[simp] theorem loseAttempt_keeps (s : State) :
    (loseAttempt s).alarm.mask1 = s.alarm.mask1 ∧ (loseAttempt s).alarm.mask2 = s.alarm.mask2 := by
  unfold loseAttempt
  (repeat' split) <;> simp

@[simp] theorem abandonFrame_keeps (s : State) :
    (abandonFrame s).alarm.mask1 = s.alarm.mask1 ∧ (abandonFrame s).alarm.mask2 = s.alarm.mask2 := by
  unfold abandonFrame
  simp

@[simp] theorem frameIsSent_keeps (p : Pending) (s : State) :
    (frameIsSent p s).alarm.mask1 = s.alarm.mask1 ∧ (frameIsSent p s).alarm.mask2 = s.alarm.mask2 ∧
      (frameIsSent p s).store.ring = s.store.ring ∧ (frameIsSent p s).store.nextSequence = s.store.nextSequence ∧
      (frameIsSent p s).store.cursor = s.store.cursor ∧ (frameIsSent p s).store.timerStart = s.store.timerStart ∧
      (frameIsSent p s).store.header = s.store.header ∧
      (frameIsSent p s).store.current.isSome = s.store.current.isSome ∧
      (frameIsSent p s).pump.condition = s.pump.condition ∧ (frameIsSent p s).pump.missCount = s.pump.missCount ∧
      (frameIsSent p s).pump.primeRemaining = s.pump.primeRemaining ∧
      (frameIsSent p s).pump.confirmed = s.pump.confirmed ∧ (frameIsSent p s).pump.primed = s.pump.primed ∧
      (frameIsSent p s).pump.missed = s.pump.missed ∧ (frameIsSent p s).pump.stray = s.pump.stray ∧
      (frameIsSent p s).pump.level = s.pump.level ∧ (frameIsSent p s).peers.entries = s.peers.entries ∧
      (frameIsSent p s).dose.delivered = s.dose.delivered ∧ (frameIsSent p s).dose.excess = s.dose.excess ∧
      (frameIsSent p s).dose.debited = s.dose.debited := by
  unfold frameIsSent
  simp

@[simp] theorem reportGiven_keeps (q : Quantity) (g : Given) (m : Bool) (s : State) :
    (reportGiven q g m s).alarm.mask1 = s.alarm.mask1 ∧ (reportGiven q g m s).alarm.mask2 = s.alarm.mask2 ∧
      (reportGiven q g m s).store.ring = s.store.ring ∧
      (reportGiven q g m s).store.nextSequence = s.store.nextSequence ∧
      (reportGiven q g m s).store.cursor = s.store.cursor ∧
      (reportGiven q g m s).store.timerStart = s.store.timerStart ∧
      (reportGiven q g m s).store.header = s.store.header ∧
      (reportGiven q g m s).store.current.isSome = s.store.current.isSome := by
  unfold reportGiven
  simp

@[simp] theorem giveValues_keeps (s : State) :
    (giveValues s).alarm.mask1 = s.alarm.mask1 ∧ (giveValues s).alarm.mask2 = s.alarm.mask2 ∧
      (giveValues s).store.ring = s.store.ring ∧ (giveValues s).store.nextSequence = s.store.nextSequence ∧
      (giveValues s).store.cursor = s.store.cursor ∧ (giveValues s).store.timerStart = s.store.timerStart ∧
      (giveValues s).store.header = s.store.header ∧ (giveValues s).store.current.isSome = s.store.current.isSome := by
  unfold giveValues
  simp

@[simp] theorem closeCycle_keeps (s : State) :
    (closeCycle s).alarm.mask1 = s.alarm.mask1 ∧ (closeCycle s).alarm.mask2 = s.alarm.mask2 ∧
      (closeCycle s).store.ring = s.store.ring ∧ (closeCycle s).store.nextSequence = s.store.nextSequence ∧
      (closeCycle s).store.cursor = s.store.cursor ∧ (closeCycle s).store.timerStart = s.store.timerStart ∧
      (closeCycle s).store.header = s.store.header ∧ (closeCycle s).store.current.isSome = s.store.current.isSome := by
  unfold closeCycle
  simp

@[simp] theorem countCycle_keeps (p t : Nat) (s : State) :
    (countCycle p t s).store.ring = s.store.ring ∧ (countCycle p t s).store.nextSequence = s.store.nextSequence ∧
      (countCycle p t s).store.cursor = s.store.cursor ∧ (countCycle p t s).store.timerStart = s.store.timerStart ∧
      (countCycle p t s).store.header = s.store.header ∧
      (countCycle p t s).store.current.isSome = s.store.current.isSome := by
  unfold countCycle
  simp

@[simp] theorem convert_keeps (r : CycleRecord) (p t : Given) (s : State) :
    (convert r p t s).alarm.mask1 = s.alarm.mask1 ∧ (convert r p t s).alarm.mask2 = s.alarm.mask2 ∧
      (convert r p t s).store.ring = s.store.ring ∧ (convert r p t s).store.nextSequence = s.store.nextSequence ∧
      (convert r p t s).store.cursor = s.store.cursor ∧ (convert r p t s).store.timerStart = s.store.timerStart ∧
      (convert r p t s).store.current.isSome = s.store.current.isSome ∧
      (convert r p t s).pump.condition = s.pump.condition ∧ (convert r p t s).pump.stroke = s.pump.stroke ∧
      (convert r p t s).pump.history = s.pump.history ∧ (convert r p t s).pump.lastStart = s.pump.lastStart ∧
      (convert r p t s).pump.missCount = s.pump.missCount ∧
      (convert r p t s).pump.primeRemaining = s.pump.primeRemaining ∧
      (convert r p t s).pump.started = s.pump.started ∧ (convert r p t s).pump.confirmed = s.pump.confirmed ∧
      (convert r p t s).pump.primed = s.pump.primed ∧ (convert r p t s).pump.missed = s.pump.missed ∧
      (convert r p t s).pump.stray = s.pump.stray ∧ (convert r p t s).pump.level = s.pump.level ∧
      (convert r p t s).filter.periodStart = s.filter.periodStart ∧
      (convert r p t s).filter.average = s.filter.average ∧
      (convert r p t s).filter.lastSample = s.filter.lastSample ∧
      (convert r p t s).filter.lastClamped = s.filter.lastClamped ∧
      (convert r p t s).filter.sampledPeriods = s.filter.sampledPeriods ∧
      (convert r p t s).filter.carriedPeriods = s.filter.carriedPeriods ∧
      (convert r p t s).filter.consecutiveCarried = s.filter.consecutiveCarried ∧
      (convert r p t s).filter.throttled = s.filter.throttled ∧ (convert r p t s).filter.dwell = s.filter.dwell ∧
      (convert r p t s).filter.concLow = s.filter.concLow ∧ (convert r p t s).dose.delivered = s.dose.delivered ∧
      (convert r p t s).dose.excess = s.dose.excess ∧ (convert r p t s).dose.debited = s.dose.debited := by
  unfold convert
  simp

@[simp] theorem cycleEnd_keeps (s : State) :
    (cycleEnd s).alarm.mask1 = s.alarm.mask1 ∧ (cycleEnd s).alarm.mask2 = s.alarm.mask2 ∧
      (cycleEnd s).store.ring = s.store.ring ∧ (cycleEnd s).store.nextSequence = s.store.nextSequence ∧
      (cycleEnd s).store.cursor = s.store.cursor ∧ (cycleEnd s).store.timerStart = s.store.timerStart ∧
      (cycleEnd s).store.current.isSome = s.store.current.isSome ∧ (cycleEnd s).pump.condition = s.pump.condition ∧
      (cycleEnd s).pump.stroke = s.pump.stroke ∧ (cycleEnd s).pump.history = s.pump.history ∧
      (cycleEnd s).pump.lastStart = s.pump.lastStart ∧ (cycleEnd s).pump.missCount = s.pump.missCount ∧
      (cycleEnd s).pump.primeRemaining = s.pump.primeRemaining ∧ (cycleEnd s).pump.started = s.pump.started ∧
      (cycleEnd s).pump.confirmed = s.pump.confirmed ∧ (cycleEnd s).pump.primed = s.pump.primed ∧
      (cycleEnd s).pump.missed = s.pump.missed ∧ (cycleEnd s).pump.stray = s.pump.stray ∧
      (cycleEnd s).pump.level = s.pump.level ∧ (cycleEnd s).filter.periodStart = s.filter.periodStart ∧
      (cycleEnd s).filter.average = s.filter.average ∧ (cycleEnd s).filter.lastSample = s.filter.lastSample ∧
      (cycleEnd s).filter.lastClamped = s.filter.lastClamped ∧
      (cycleEnd s).filter.sampledPeriods = s.filter.sampledPeriods ∧
      (cycleEnd s).filter.carriedPeriods = s.filter.carriedPeriods ∧
      (cycleEnd s).filter.consecutiveCarried = s.filter.consecutiveCarried ∧
      (cycleEnd s).filter.throttled = s.filter.throttled ∧ (cycleEnd s).filter.dwell = s.filter.dwell ∧
      (cycleEnd s).filter.concLow = s.filter.concLow ∧ (cycleEnd s).dose.delivered = s.dose.delivered ∧
      (cycleEnd s).dose.excess = s.dose.excess ∧ (cycleEnd s).dose.debited = s.dose.debited := by
  unfold cycleEnd
  simp

@[simp] theorem admission_keeps (f : TallyFrame) (s : State) :
    (admission f s).store.ring = s.store.ring ∧ (admission f s).store.nextSequence = s.store.nextSequence ∧
      (admission f s).store.cursor = s.store.cursor ∧ (admission f s).store.timerStart = s.store.timerStart ∧
      (admission f s).store.header = s.store.header ∧ (admission f s).store.current.isSome = s.store.current.isSome := by
  unfold admission
  simp

@[simp] theorem raiseImplausible_keeps (s : State) :
    (raiseImplausible s).alarm.mask1 = s.alarm.mask1 ∧ (raiseImplausible s).alarm.mask2 = s.alarm.mask2 ∧
      (raiseImplausible s).store.ring = s.store.ring ∧
      (raiseImplausible s).store.nextSequence = s.store.nextSequence ∧
      (raiseImplausible s).store.cursor = s.store.cursor ∧
      (raiseImplausible s).store.timerStart = s.store.timerStart ∧
      (raiseImplausible s).store.header = s.store.header ∧
      (raiseImplausible s).store.current.isSome = s.store.current.isSome := by
  unfold raiseImplausible
  simp

@[simp] theorem handAdoption_keeps (k : AdoptionKind) (n x : Nat) (s : State) :
    (handAdoption k n x s).alarm.mask1 = s.alarm.mask1 ∧ (handAdoption k n x s).alarm.mask2 = s.alarm.mask2 ∧
      (handAdoption k n x s).store.ring = s.store.ring ∧
      (handAdoption k n x s).store.nextSequence = s.store.nextSequence ∧
      (handAdoption k n x s).store.cursor = s.store.cursor ∧
      (handAdoption k n x s).store.timerStart = s.store.timerStart ∧
      (handAdoption k n x s).store.header = s.store.header ∧
      (handAdoption k n x s).store.current.isSome = s.store.current.isSome ∧
      (handAdoption k n x s).pump.condition = s.pump.condition ∧
      (handAdoption k n x s).pump.missCount = s.pump.missCount ∧
      (handAdoption k n x s).pump.primeRemaining = s.pump.primeRemaining ∧
      (handAdoption k n x s).pump.confirmed = s.pump.confirmed ∧ (handAdoption k n x s).pump.primed = s.pump.primed ∧
      (handAdoption k n x s).pump.missed = s.pump.missed ∧ (handAdoption k n x s).pump.stray = s.pump.stray ∧
      (handAdoption k n x s).pump.level = s.pump.level ∧ (handAdoption k n x s).dose.delivered = s.dose.delivered ∧
      (handAdoption k n x s).dose.excess = s.dose.excess ∧ (handAdoption k n x s).dose.debited = s.dose.debited := by
  unfold handAdoption
  (repeat' split) <;> simp

@[simp] theorem handCharge_keeps (l n : Bool) (d : BitVec 32) (s : State) :
    (handCharge l n d s).alarm.mask1 = s.alarm.mask1 ∧ (handCharge l n d s).alarm.mask2 = s.alarm.mask2 ∧
      (handCharge l n d s).store.ring = s.store.ring ∧
      (handCharge l n d s).store.nextSequence = s.store.nextSequence ∧
      (handCharge l n d s).store.cursor = s.store.cursor ∧
      (handCharge l n d s).store.timerStart = s.store.timerStart ∧
      (handCharge l n d s).store.header = s.store.header ∧
      (handCharge l n d s).store.current.isSome = s.store.current.isSome ∧
      (handCharge l n d s).pump.condition = s.pump.condition ∧
      (handCharge l n d s).pump.missCount = s.pump.missCount ∧
      (handCharge l n d s).pump.primeRemaining = s.pump.primeRemaining ∧
      (handCharge l n d s).pump.confirmed = s.pump.confirmed ∧ (handCharge l n d s).pump.primed = s.pump.primed ∧
      (handCharge l n d s).pump.missed = s.pump.missed ∧ (handCharge l n d s).pump.stray = s.pump.stray ∧
      (handCharge l n d s).pump.level = s.pump.level ∧ (handCharge l n d s).dose.delivered = s.dose.delivered ∧
      (handCharge l n d s).dose.excess = s.dose.excess ∧ (handCharge l n d s).dose.debited = s.dose.debited := by
  unfold handCharge
  (repeat' split) <;> simp

@[simp] theorem handTallyAdoption_keeps (n : Nat) (l : LiveFields) (v : Bool) (d : Nat) (s : State) :
    (handTallyAdoption n l v d s).alarm.mask1 = s.alarm.mask1 ∧
      (handTallyAdoption n l v d s).alarm.mask2 = s.alarm.mask2 ∧
      (handTallyAdoption n l v d s).store.ring = s.store.ring ∧
      (handTallyAdoption n l v d s).store.nextSequence = s.store.nextSequence ∧
      (handTallyAdoption n l v d s).store.cursor = s.store.cursor ∧
      (handTallyAdoption n l v d s).store.timerStart = s.store.timerStart ∧
      (handTallyAdoption n l v d s).store.header = s.store.header ∧
      (handTallyAdoption n l v d s).store.current.isSome = s.store.current.isSome ∧
      (handTallyAdoption n l v d s).pump.condition = s.pump.condition ∧
      (handTallyAdoption n l v d s).pump.missCount = s.pump.missCount ∧
      (handTallyAdoption n l v d s).pump.primeRemaining = s.pump.primeRemaining ∧
      (handTallyAdoption n l v d s).pump.confirmed = s.pump.confirmed ∧
      (handTallyAdoption n l v d s).pump.primed = s.pump.primed ∧
      (handTallyAdoption n l v d s).pump.missed = s.pump.missed ∧
      (handTallyAdoption n l v d s).pump.stray = s.pump.stray ∧
      (handTallyAdoption n l v d s).pump.level = s.pump.level ∧
      (handTallyAdoption n l v d s).dose.delivered = s.dose.delivered ∧
      (handTallyAdoption n l v d s).dose.excess = s.dose.excess ∧
      (handTallyAdoption n l v d s).dose.debited = s.dose.debited := by
  unfold handTallyAdoption
  (repeat' split) <;> simp

@[simp] theorem acceptTally_keeps (f : TallyFrame) (l : LiveFields) (s : State) :
    (acceptTally f l s).alarm.mask1 = s.alarm.mask1 ∧ (acceptTally f l s).alarm.mask2 = s.alarm.mask2 ∧
      (acceptTally f l s).store.ring = s.store.ring ∧ (acceptTally f l s).store.nextSequence = s.store.nextSequence ∧
      (acceptTally f l s).store.cursor = s.store.cursor ∧ (acceptTally f l s).store.timerStart = s.store.timerStart ∧
      (acceptTally f l s).store.current.isSome = s.store.current.isSome ∧
      (acceptTally f l s).pump.condition = s.pump.condition ∧ (acceptTally f l s).pump.missCount = s.pump.missCount ∧
      (acceptTally f l s).pump.primeRemaining = s.pump.primeRemaining ∧
      (acceptTally f l s).pump.confirmed = s.pump.confirmed ∧ (acceptTally f l s).pump.primed = s.pump.primed ∧
      (acceptTally f l s).pump.missed = s.pump.missed ∧ (acceptTally f l s).pump.stray = s.pump.stray ∧
      (acceptTally f l s).pump.level = s.pump.level ∧ (acceptTally f l s).filter.periodStart = s.filter.periodStart ∧
      (acceptTally f l s).filter.average = s.filter.average ∧
      (acceptTally f l s).filter.lastSample = s.filter.lastSample ∧
      (acceptTally f l s).filter.lastClamped = s.filter.lastClamped ∧
      (acceptTally f l s).filter.sampledPeriods = s.filter.sampledPeriods ∧
      (acceptTally f l s).filter.carriedPeriods = s.filter.carriedPeriods ∧
      (acceptTally f l s).filter.consecutiveCarried = s.filter.consecutiveCarried ∧
      (acceptTally f l s).filter.throttled = s.filter.throttled ∧ (acceptTally f l s).filter.dwell = s.filter.dwell ∧
      (acceptTally f l s).filter.concLow = s.filter.concLow ∧ (acceptTally f l s).dose.delivered = s.dose.delivered ∧
      (acceptTally f l s).dose.excess = s.dose.excess ∧ (acceptTally f l s).dose.debited = s.dose.debited := by
  unfold acceptTally
  dsimp only
  (repeat' split) <;> simp

@[simp] theorem takeTally_keeps (f : TallyFrame) (s : State) :
    (takeTally f s).alarm.mask1 = s.alarm.mask1 ∧ (takeTally f s).alarm.mask2 = s.alarm.mask2 ∧
      (takeTally f s).store.ring = s.store.ring ∧ (takeTally f s).store.nextSequence = s.store.nextSequence ∧
      (takeTally f s).store.cursor = s.store.cursor ∧ (takeTally f s).store.timerStart = s.store.timerStart ∧
      (takeTally f s).store.current.isSome = s.store.current.isSome ∧
      (takeTally f s).pump.condition = s.pump.condition ∧ (takeTally f s).pump.missCount = s.pump.missCount ∧
      (takeTally f s).pump.primeRemaining = s.pump.primeRemaining ∧
      (takeTally f s).pump.confirmed = s.pump.confirmed ∧ (takeTally f s).pump.primed = s.pump.primed ∧
      (takeTally f s).pump.missed = s.pump.missed ∧ (takeTally f s).pump.stray = s.pump.stray ∧
      (takeTally f s).pump.level = s.pump.level ∧ (takeTally f s).filter.periodStart = s.filter.periodStart ∧
      (takeTally f s).filter.average = s.filter.average ∧ (takeTally f s).filter.lastSample = s.filter.lastSample ∧
      (takeTally f s).filter.lastClamped = s.filter.lastClamped ∧
      (takeTally f s).filter.sampledPeriods = s.filter.sampledPeriods ∧
      (takeTally f s).filter.carriedPeriods = s.filter.carriedPeriods ∧
      (takeTally f s).filter.consecutiveCarried = s.filter.consecutiveCarried ∧
      (takeTally f s).filter.throttled = s.filter.throttled ∧ (takeTally f s).filter.dwell = s.filter.dwell ∧
      (takeTally f s).filter.concLow = s.filter.concLow ∧ (takeTally f s).dose.delivered = s.dose.delivered ∧
      (takeTally f s).dose.excess = s.dose.excess ∧ (takeTally f s).dose.debited = s.dose.debited := by
  unfold takeTally
  (repeat' split) <;> simp

@[simp] theorem acceptLeave_keeps (f : LeaveFrame) (l : LiveFields) (s : State) :
    (acceptLeave f l s).alarm.mask1 = s.alarm.mask1 ∧ (acceptLeave f l s).alarm.mask2 = s.alarm.mask2 ∧
      (acceptLeave f l s).store.ring = s.store.ring ∧ (acceptLeave f l s).store.nextSequence = s.store.nextSequence ∧
      (acceptLeave f l s).store.cursor = s.store.cursor ∧ (acceptLeave f l s).store.timerStart = s.store.timerStart ∧
      (acceptLeave f l s).store.header = s.store.header ∧
      (acceptLeave f l s).store.current.isSome = s.store.current.isSome ∧
      (acceptLeave f l s).pump.condition = s.pump.condition ∧ (acceptLeave f l s).pump.missCount = s.pump.missCount ∧
      (acceptLeave f l s).pump.primeRemaining = s.pump.primeRemaining ∧
      (acceptLeave f l s).pump.confirmed = s.pump.confirmed ∧ (acceptLeave f l s).pump.primed = s.pump.primed ∧
      (acceptLeave f l s).pump.missed = s.pump.missed ∧ (acceptLeave f l s).pump.stray = s.pump.stray ∧
      (acceptLeave f l s).pump.level = s.pump.level ∧ (acceptLeave f l s).dose.delivered = s.dose.delivered ∧
      (acceptLeave f l s).dose.excess = s.dose.excess ∧ (acceptLeave f l s).dose.debited = s.dose.debited := by
  unfold acceptLeave
  dsimp only
  (repeat' split) <;> simp

@[simp] theorem takeLeave_keeps (f : LeaveFrame) (s : State) :
    (takeLeave f s).alarm.mask1 = s.alarm.mask1 ∧ (takeLeave f s).alarm.mask2 = s.alarm.mask2 ∧
      (takeLeave f s).store.ring = s.store.ring ∧ (takeLeave f s).store.nextSequence = s.store.nextSequence ∧
      (takeLeave f s).store.cursor = s.store.cursor ∧ (takeLeave f s).store.timerStart = s.store.timerStart ∧
      (takeLeave f s).store.header = s.store.header ∧ (takeLeave f s).store.current.isSome = s.store.current.isSome ∧
      (takeLeave f s).pump.condition = s.pump.condition ∧ (takeLeave f s).pump.missCount = s.pump.missCount ∧
      (takeLeave f s).pump.primeRemaining = s.pump.primeRemaining ∧
      (takeLeave f s).pump.confirmed = s.pump.confirmed ∧ (takeLeave f s).pump.primed = s.pump.primed ∧
      (takeLeave f s).pump.missed = s.pump.missed ∧ (takeLeave f s).pump.stray = s.pump.stray ∧
      (takeLeave f s).pump.level = s.pump.level ∧ (takeLeave f s).dose.delivered = s.dose.delivered ∧
      (takeLeave f s).dose.excess = s.dose.excess ∧ (takeLeave f s).dose.debited = s.dose.debited := by
  unfold takeLeave
  dsimp only
  (repeat' split) <;> simp

@[simp] theorem takeFrame_keeps (f : Frame) (s : State) :
    (takeFrame f s).alarm.mask1 = s.alarm.mask1 ∧ (takeFrame f s).alarm.mask2 = s.alarm.mask2 ∧
      (takeFrame f s).store.ring = s.store.ring ∧ (takeFrame f s).store.nextSequence = s.store.nextSequence ∧
      (takeFrame f s).store.cursor = s.store.cursor ∧ (takeFrame f s).store.timerStart = s.store.timerStart ∧
      (takeFrame f s).store.current.isSome = s.store.current.isSome ∧
      (takeFrame f s).pump.condition = s.pump.condition ∧ (takeFrame f s).pump.missCount = s.pump.missCount ∧
      (takeFrame f s).pump.primeRemaining = s.pump.primeRemaining ∧
      (takeFrame f s).pump.confirmed = s.pump.confirmed ∧ (takeFrame f s).pump.primed = s.pump.primed ∧
      (takeFrame f s).pump.missed = s.pump.missed ∧ (takeFrame f s).pump.stray = s.pump.stray ∧
      (takeFrame f s).pump.level = s.pump.level ∧ (takeFrame f s).filter.periodStart = s.filter.periodStart ∧
      (takeFrame f s).filter.average = s.filter.average ∧ (takeFrame f s).filter.lastSample = s.filter.lastSample ∧
      (takeFrame f s).filter.lastClamped = s.filter.lastClamped ∧
      (takeFrame f s).filter.sampledPeriods = s.filter.sampledPeriods ∧
      (takeFrame f s).filter.carriedPeriods = s.filter.carriedPeriods ∧
      (takeFrame f s).filter.consecutiveCarried = s.filter.consecutiveCarried ∧
      (takeFrame f s).filter.throttled = s.filter.throttled ∧ (takeFrame f s).filter.dwell = s.filter.dwell ∧
      (takeFrame f s).filter.concLow = s.filter.concLow ∧ (takeFrame f s).dose.delivered = s.dose.delivered ∧
      (takeFrame f s).dose.excess = s.dose.excess ∧ (takeFrame f s).dose.debited = s.dose.debited := by
  unfold takeFrame
  (repeat' split) <;> simp

@[simp] theorem duplicate_keeps (s : State) :
    (duplicate s).alarm.mask1 = s.alarm.mask1 ∧ (duplicate s).alarm.mask2 = s.alarm.mask2 ∧
      (duplicate s).store.ring = s.store.ring ∧ (duplicate s).store.nextSequence = s.store.nextSequence ∧
      (duplicate s).store.cursor = s.store.cursor ∧ (duplicate s).store.timerStart = s.store.timerStart ∧
      (duplicate s).store.header = s.store.header ∧ (duplicate s).store.current.isSome = s.store.current.isSome ∧
      (duplicate s).pump.condition = s.pump.condition ∧ (duplicate s).pump.missCount = s.pump.missCount ∧
      (duplicate s).pump.primeRemaining = s.pump.primeRemaining ∧ (duplicate s).pump.confirmed = s.pump.confirmed ∧
      (duplicate s).pump.primed = s.pump.primed ∧ (duplicate s).pump.missed = s.pump.missed ∧
      (duplicate s).pump.stray = s.pump.stray ∧ (duplicate s).pump.level = s.pump.level ∧
      (duplicate s).peers.entries = s.peers.entries ∧ (duplicate s).dose.delivered = s.dose.delivered ∧
      (duplicate s).dose.excess = s.dose.excess ∧ (duplicate s).dose.debited = s.dose.debited := by
  unfold duplicate
  (repeat' split) <;> simp

@[simp] theorem goodFrame_keeps (f : Frame) (s : State) :
    (goodFrame f s).alarm.mask1 = s.alarm.mask1 ∧ (goodFrame f s).alarm.mask2 = s.alarm.mask2 ∧
      (goodFrame f s).store.ring = s.store.ring ∧ (goodFrame f s).store.nextSequence = s.store.nextSequence ∧
      (goodFrame f s).store.cursor = s.store.cursor ∧ (goodFrame f s).store.timerStart = s.store.timerStart ∧
      (goodFrame f s).store.current.isSome = s.store.current.isSome ∧
      (goodFrame f s).pump.condition = s.pump.condition ∧ (goodFrame f s).pump.missCount = s.pump.missCount ∧
      (goodFrame f s).pump.primeRemaining = s.pump.primeRemaining ∧
      (goodFrame f s).pump.confirmed = s.pump.confirmed ∧ (goodFrame f s).pump.primed = s.pump.primed ∧
      (goodFrame f s).pump.missed = s.pump.missed ∧ (goodFrame f s).pump.stray = s.pump.stray ∧
      (goodFrame f s).pump.level = s.pump.level ∧ (goodFrame f s).filter.periodStart = s.filter.periodStart ∧
      (goodFrame f s).filter.average = s.filter.average ∧ (goodFrame f s).filter.lastSample = s.filter.lastSample ∧
      (goodFrame f s).filter.lastClamped = s.filter.lastClamped ∧
      (goodFrame f s).filter.sampledPeriods = s.filter.sampledPeriods ∧
      (goodFrame f s).filter.carriedPeriods = s.filter.carriedPeriods ∧
      (goodFrame f s).filter.consecutiveCarried = s.filter.consecutiveCarried ∧
      (goodFrame f s).filter.throttled = s.filter.throttled ∧ (goodFrame f s).filter.dwell = s.filter.dwell ∧
      (goodFrame f s).filter.concLow = s.filter.concLow ∧ (goodFrame f s).dose.delivered = s.dose.delivered ∧
      (goodFrame f s).dose.excess = s.dose.excess ∧ (goodFrame f s).dose.debited = s.dose.debited := by
  unfold goodFrame
  (repeat' split) <;> simp

@[simp] theorem expire_keeps (n : Nat) (f : LiveFields) (s : State) :
    (expire n f s).alarm.mask1 = s.alarm.mask1 ∧ (expire n f s).alarm.mask2 = s.alarm.mask2 ∧
      (expire n f s).store.ring = s.store.ring ∧ (expire n f s).store.nextSequence = s.store.nextSequence ∧
      (expire n f s).store.cursor = s.store.cursor ∧ (expire n f s).store.timerStart = s.store.timerStart ∧
      (expire n f s).store.header = s.store.header ∧ (expire n f s).store.current.isSome = s.store.current.isSome ∧
      (expire n f s).pump.condition = s.pump.condition ∧ (expire n f s).pump.missCount = s.pump.missCount ∧
      (expire n f s).pump.primeRemaining = s.pump.primeRemaining ∧ (expire n f s).pump.confirmed = s.pump.confirmed ∧
      (expire n f s).pump.primed = s.pump.primed ∧ (expire n f s).pump.missed = s.pump.missed ∧
      (expire n f s).pump.stray = s.pump.stray ∧ (expire n f s).pump.level = s.pump.level ∧
      (expire n f s).dose.delivered = s.dose.delivered ∧ (expire n f s).dose.excess = s.dose.excess ∧
      (expire n f s).dose.debited = s.dose.debited := by
  unfold expire
  (repeat' split) <;> simp

@[simp] theorem confirmDosing_keeps (s : State) :
    (confirmDosing s).alarm.mask1 = s.alarm.mask1 ∧ (confirmDosing s).alarm.mask2 = s.alarm.mask2 ∧
      (confirmDosing s).store.ring = s.store.ring ∧ (confirmDosing s).store.nextSequence = s.store.nextSequence ∧
      (confirmDosing s).store.cursor = s.store.cursor ∧ (confirmDosing s).store.timerStart = s.store.timerStart ∧
      (confirmDosing s).store.header = s.store.header ∧
      (confirmDosing s).store.current.isSome = s.store.current.isSome ∧
      (confirmDosing s).pump.history = s.pump.history ∧ (confirmDosing s).pump.lastStart = s.pump.lastStart ∧
      (confirmDosing s).pump.started = s.pump.started ∧ (confirmDosing s).pump.missed = s.pump.missed ∧
      (confirmDosing s).pump.stray = s.pump.stray ∧ (confirmDosing s).pump.level = s.pump.level ∧
      (confirmDosing s).filter.periodStart = s.filter.periodStart ∧
      (confirmDosing s).filter.average = s.filter.average ∧
      (confirmDosing s).filter.lastSample = s.filter.lastSample ∧
      (confirmDosing s).filter.lastClamped = s.filter.lastClamped ∧
      (confirmDosing s).filter.sampledPeriods = s.filter.sampledPeriods ∧
      (confirmDosing s).filter.carriedPeriods = s.filter.carriedPeriods ∧
      (confirmDosing s).filter.consecutiveCarried = s.filter.consecutiveCarried ∧
      (confirmDosing s).filter.throttled = s.filter.throttled ∧ (confirmDosing s).filter.dwell = s.filter.dwell ∧
      (confirmDosing s).filter.concLow = s.filter.concLow := by
  unfold confirmDosing
  simp

@[simp] theorem confirmPrime_keeps (v : Bool) (s : State) :
    (confirmPrime v s).alarm.mask1 = s.alarm.mask1 ∧ (confirmPrime v s).alarm.mask2 = s.alarm.mask2 ∧
      (confirmPrime v s).store.ring = s.store.ring ∧ (confirmPrime v s).store.nextSequence = s.store.nextSequence ∧
      (confirmPrime v s).store.cursor = s.store.cursor ∧ (confirmPrime v s).store.timerStart = s.store.timerStart ∧
      (confirmPrime v s).store.header = s.store.header ∧
      (confirmPrime v s).store.current.isSome = s.store.current.isSome ∧
      (confirmPrime v s).pump.history = s.pump.history ∧ (confirmPrime v s).pump.lastStart = s.pump.lastStart ∧
      (confirmPrime v s).pump.started = s.pump.started ∧ (confirmPrime v s).pump.missed = s.pump.missed ∧
      (confirmPrime v s).pump.stray = s.pump.stray ∧ (confirmPrime v s).pump.level = s.pump.level := by
  unfold confirmPrime
  dsimp only
  (repeat' split) <;> simp

@[simp] theorem confirmStroke_keeps (k : Stroke) (s : State) :
    (confirmStroke k s).alarm.mask1 = s.alarm.mask1 ∧ (confirmStroke k s).alarm.mask2 = s.alarm.mask2 ∧
      (confirmStroke k s).store.ring = s.store.ring ∧ (confirmStroke k s).store.nextSequence = s.store.nextSequence ∧
      (confirmStroke k s).store.cursor = s.store.cursor ∧ (confirmStroke k s).store.timerStart = s.store.timerStart ∧
      (confirmStroke k s).store.header = s.store.header ∧
      (confirmStroke k s).store.current.isSome = s.store.current.isSome ∧
      (confirmStroke k s).pump.history = s.pump.history ∧ (confirmStroke k s).pump.lastStart = s.pump.lastStart ∧
      (confirmStroke k s).pump.started = s.pump.started ∧ (confirmStroke k s).pump.missed = s.pump.missed ∧
      (confirmStroke k s).pump.stray = s.pump.stray ∧ (confirmStroke k s).pump.level = s.pump.level ∧
      (confirmStroke k s).filter.periodStart = s.filter.periodStart ∧
      (confirmStroke k s).filter.average = s.filter.average ∧
      (confirmStroke k s).filter.lastSample = s.filter.lastSample ∧
      (confirmStroke k s).filter.lastClamped = s.filter.lastClamped ∧
      (confirmStroke k s).filter.sampledPeriods = s.filter.sampledPeriods ∧
      (confirmStroke k s).filter.carriedPeriods = s.filter.carriedPeriods ∧
      (confirmStroke k s).filter.consecutiveCarried = s.filter.consecutiveCarried ∧
      (confirmStroke k s).filter.throttled = s.filter.throttled ∧ (confirmStroke k s).filter.dwell = s.filter.dwell ∧
      (confirmStroke k s).filter.concLow = s.filter.concLow := by
  unfold confirmStroke
  (repeat' split) <;> simp

@[simp] theorem enterFault_keeps (s : State) :
    (enterFault s).alarm.mask1 = s.alarm.mask1 ∧ (enterFault s).alarm.mask2 = s.alarm.mask2 ∧
      (enterFault s).store.ring = s.store.ring ∧ (enterFault s).store.nextSequence = s.store.nextSequence ∧
      (enterFault s).store.cursor = s.store.cursor ∧ (enterFault s).store.timerStart = s.store.timerStart ∧
      (enterFault s).store.header = s.store.header ∧ (enterFault s).store.current.isSome = s.store.current.isSome ∧
      (enterFault s).pump.history = s.pump.history ∧ (enterFault s).pump.lastStart = s.pump.lastStart ∧
      (enterFault s).pump.missCount = s.pump.missCount ∧ (enterFault s).pump.primeRemaining = s.pump.primeRemaining ∧
      (enterFault s).pump.started = s.pump.started ∧ (enterFault s).pump.confirmed = s.pump.confirmed ∧
      (enterFault s).pump.primed = s.pump.primed ∧ (enterFault s).pump.missed = s.pump.missed ∧
      (enterFault s).pump.stray = s.pump.stray ∧ (enterFault s).pump.level = s.pump.level ∧
      (enterFault s).dose.delivered = s.dose.delivered ∧ (enterFault s).dose.excess = s.dose.excess ∧
      (enterFault s).dose.debited = s.dose.debited := by
  unfold enterFault
  simp

@[simp] theorem missStroke_keeps (s : State) :
    (missStroke s).alarm.mask1 = s.alarm.mask1 ∧ (missStroke s).alarm.mask2 = s.alarm.mask2 ∧
      (missStroke s).store.ring = s.store.ring ∧ (missStroke s).store.nextSequence = s.store.nextSequence ∧
      (missStroke s).store.cursor = s.store.cursor ∧ (missStroke s).store.timerStart = s.store.timerStart ∧
      (missStroke s).store.header = s.store.header ∧ (missStroke s).store.current.isSome = s.store.current.isSome ∧
      (missStroke s).pump.history = s.pump.history ∧ (missStroke s).pump.lastStart = s.pump.lastStart ∧
      (missStroke s).pump.primeRemaining = s.pump.primeRemaining ∧ (missStroke s).pump.started = s.pump.started ∧
      (missStroke s).pump.confirmed = s.pump.confirmed ∧ (missStroke s).pump.primed = s.pump.primed ∧
      (missStroke s).pump.stray = s.pump.stray ∧ (missStroke s).pump.level = s.pump.level ∧
      (missStroke s).dose.delivered = s.dose.delivered ∧ (missStroke s).dose.excess = s.dose.excess ∧
      (missStroke s).dose.debited = s.dose.debited := by
  unfold missStroke
  dsimp only
  (repeat' split) <;> simp

@[simp] theorem takePulse_keeps (s : State) :
    (takePulse s).alarm.mask1 = s.alarm.mask1 ∧ (takePulse s).alarm.mask2 = s.alarm.mask2 ∧
      (takePulse s).store.ring = s.store.ring ∧ (takePulse s).store.nextSequence = s.store.nextSequence ∧
      (takePulse s).store.cursor = s.store.cursor ∧ (takePulse s).store.timerStart = s.store.timerStart ∧
      (takePulse s).store.header = s.store.header ∧ (takePulse s).store.current.isSome = s.store.current.isSome ∧
      (takePulse s).filter.periodStart = s.filter.periodStart ∧ (takePulse s).filter.average = s.filter.average ∧
      (takePulse s).filter.lastSample = s.filter.lastSample ∧
      (takePulse s).filter.lastClamped = s.filter.lastClamped ∧
      (takePulse s).filter.sampledPeriods = s.filter.sampledPeriods ∧
      (takePulse s).filter.carriedPeriods = s.filter.carriedPeriods ∧
      (takePulse s).filter.consecutiveCarried = s.filter.consecutiveCarried ∧
      (takePulse s).filter.throttled = s.filter.throttled ∧ (takePulse s).filter.dwell = s.filter.dwell ∧
      (takePulse s).filter.concLow = s.filter.concLow := by
  unfold takePulse
  (repeat' split) <;> simp

@[simp] theorem testThrottle_keeps (s : State) :
    (testThrottle s).alarm.mask1 = s.alarm.mask1 ∧ (testThrottle s).alarm.mask2 = s.alarm.mask2 ∧
      (testThrottle s).store.ring = s.store.ring ∧ (testThrottle s).store.nextSequence = s.store.nextSequence ∧
      (testThrottle s).store.cursor = s.store.cursor ∧ (testThrottle s).store.timerStart = s.store.timerStart ∧
      (testThrottle s).store.header = s.store.header ∧ (testThrottle s).store.current.isSome = s.store.current.isSome := by
  unfold testThrottle
  simp

@[simp] theorem testDwell_keeps (s : State) :
    (testDwell s).alarm.mask1 = s.alarm.mask1 ∧ (testDwell s).alarm.mask2 = s.alarm.mask2 := by
  unfold testDwell
  (repeat' split) <;> simp

@[simp] theorem periodEnd_keeps (s : State) :
    (periodEnd s).alarm.mask1 = s.alarm.mask1 ∧ (periodEnd s).alarm.mask2 = s.alarm.mask2 ∧
      (periodEnd s).store.ring = s.store.ring ∧ (periodEnd s).store.nextSequence = s.store.nextSequence ∧
      (periodEnd s).store.cursor = s.store.cursor ∧ (periodEnd s).store.timerStart = s.store.timerStart ∧
      (periodEnd s).store.header = s.store.header ∧ (periodEnd s).store.current.isSome = s.store.current.isSome := by
  unfold periodEnd
  simp only [apply_ite]
  simp

@[simp] theorem openInterval_keeps (s : State) :
    (openInterval s).store.cursor = s.store.cursor ∧ (openInterval s).store.timerStart = s.store.timerStart ∧
      (openInterval s).store.header = s.store.header := by
  unfold openInterval
  simp

@[simp] theorem closeInterval_keeps (c : CloseCause) (s : State) :
    (closeInterval c s).store.cursor = s.store.cursor ∧ (closeInterval c s).store.timerStart = s.store.timerStart ∧
      (closeInterval c s).store.header = s.store.header := by
  unfold closeInterval
  (repeat' split) <;> simp

@[simp] theorem enterPriming_keeps (s : State) :
    (enterPriming s).alarm.mask1 = s.alarm.mask1 ∧ (enterPriming s).alarm.mask2 = s.alarm.mask2 ∧
      (enterPriming s).store.ring = s.store.ring ∧ (enterPriming s).store.nextSequence = s.store.nextSequence ∧
      (enterPriming s).store.cursor = s.store.cursor ∧ (enterPriming s).store.timerStart = s.store.timerStart ∧
      (enterPriming s).store.header = s.store.header ∧ (enterPriming s).store.current.isSome = s.store.current.isSome := by
  unfold enterPriming
  simp

@[simp] theorem park_keeps (s : State) :
    (park s).alarm.mask1 = s.alarm.mask1 ∧ (park s).alarm.mask2 = s.alarm.mask2 ∧
      (park s).store.ring = s.store.ring ∧ (park s).store.nextSequence = s.store.nextSequence ∧
      (park s).store.cursor = s.store.cursor ∧ (park s).store.timerStart = s.store.timerStart ∧
      (park s).store.header = s.store.header ∧ (park s).store.current.isSome = s.store.current.isSome ∧
      (park s).pump.condition = s.pump.condition ∧ (park s).pump.stroke = s.pump.stroke ∧
      (park s).pump.history = s.pump.history ∧ (park s).pump.lastStart = s.pump.lastStart ∧
      (park s).pump.missCount = s.pump.missCount ∧ (park s).pump.primeRemaining = s.pump.primeRemaining ∧
      (park s).pump.started = s.pump.started ∧ (park s).pump.confirmed = s.pump.confirmed ∧
      (park s).pump.primed = s.pump.primed ∧ (park s).pump.missed = s.pump.missed ∧
      (park s).pump.stray = s.pump.stray ∧ (park s).pump.level = s.pump.level ∧
      (park s).peers.entries = s.peers.entries ∧ (park s).dose.delivered = s.dose.delivered ∧
      (park s).dose.excess = s.dose.excess ∧ (park s).dose.debited = s.dose.debited := by
  unfold park
  simp

@[simp] theorem clearLatches_keeps (s : State) :
    (clearLatches s).alarm.mask1 = s.alarm.mask1 ∧ (clearLatches s).alarm.mask2 = s.alarm.mask2 := by
  unfold clearLatches
  simp

@[simp] theorem startSharing_keeps (s : State) :
    (startSharing s).alarm.mask1 = s.alarm.mask1 ∧ (startSharing s).alarm.mask2 = s.alarm.mask2 ∧
      (startSharing s).store.ring = s.store.ring ∧ (startSharing s).store.nextSequence = s.store.nextSequence ∧
      (startSharing s).store.cursor = s.store.cursor ∧ (startSharing s).store.timerStart = s.store.timerStart ∧
      (startSharing s).store.header = s.store.header ∧
      (startSharing s).store.current.isSome = s.store.current.isSome ∧
      (startSharing s).peers.entries = s.peers.entries := by
  unfold startSharing
  simp

@[simp] theorem startPump_keeps (s : State) :
    (startPump s).alarm.mask1 = s.alarm.mask1 ∧ (startPump s).alarm.mask2 = s.alarm.mask2 ∧
      (startPump s).store.ring = s.store.ring ∧ (startPump s).store.nextSequence = s.store.nextSequence ∧
      (startPump s).store.cursor = s.store.cursor ∧ (startPump s).store.timerStart = s.store.timerStart ∧
      (startPump s).store.header = s.store.header ∧ (startPump s).store.current.isSome = s.store.current.isSome := by
  unfold startPump
  simp

end Sys2Proof.Machine
end

