-- ==== Sys2Proof/Laws/Effects.lean ====
section
/-! SUPPORT. What each shared operation does to the block it is for: one lemma per operation. -/

namespace Sys2Proof.Machine

/-! ## What is read through an update -/

@[simp] theorem withClock_reads (x : Time) (s : State) :
    (∀ z, (s.withClock x).isTrue z = s.isTrue z) ∧ (∀ z, (s.withClock x).isLatched z = s.isLatched z) ∧
      (s.withClock x).nodeNumber = s.nodeNumber ∧ (s.withClock x).advertised = s.advertised := by
  refine ⟨fun _ => rfl, fun _ => rfl, rfl, rfl⟩

@[simp] theorem withCfg_reads (x : Cfg) (s : State) :
    (∀ z, (s.withCfg x).isTrue z = s.isTrue z) ∧ (∀ z, (s.withCfg x).isLatched z = s.isLatched z) ∧
      (s.withCfg x).nodeNumber = s.nodeNumber := by
  refine ⟨fun _ => rfl, fun _ => rfl, rfl⟩

@[simp] theorem withPulse_reads (x : PulseCounter) (s : State) :
    (∀ z, (s.withPulse x).isTrue z = s.isTrue z) ∧ (∀ z, (s.withPulse x).isLatched z = s.isLatched z) ∧
      (s.withPulse x).nodeNumber = s.nodeNumber ∧ (s.withPulse x).advertised = s.advertised := by
  refine ⟨fun _ => rfl, fun _ => rfl, rfl, rfl⟩

@[simp] theorem withSensor_reads (x : SensorBus) (s : State) :
    (∀ z, (s.withSensor x).isTrue z = s.isTrue z) ∧ (∀ z, (s.withSensor x).isLatched z = s.isLatched z) ∧
      (s.withSensor x).nodeNumber = s.nodeNumber ∧ (s.withSensor x).advertised = s.advertised := by
  refine ⟨fun _ => rfl, fun _ => rfl, rfl, rfl⟩

@[simp] theorem withConv_reads (x : ConversionUnit) (s : State) :
    (∀ z, (s.withConv x).isTrue z = s.isTrue z) ∧ (∀ z, (s.withConv x).isLatched z = s.isLatched z) ∧
      (s.withConv x).nodeNumber = s.nodeNumber ∧ (s.withConv x).advertised = s.advertised := by
  refine ⟨fun _ => rfl, fun _ => rfl, rfl, rfl⟩

@[simp] theorem withTally_reads (x : TallyLine) (s : State) :
    (∀ z, (s.withTally x).isTrue z = s.isTrue z) ∧ (∀ z, (s.withTally x).isLatched z = s.isLatched z) ∧
      (s.withTally x).nodeNumber = s.nodeNumber ∧ (s.withTally x).advertised = s.advertised := by
  refine ⟨fun _ => rfl, fun _ => rfl, rfl, rfl⟩

@[simp] theorem withPeers_reads (x : PeerTable) (s : State) :
    (∀ z, (s.withPeers x).isTrue z = s.isTrue z) ∧ (∀ z, (s.withPeers x).isLatched z = s.isLatched z) ∧
      (s.withPeers x).nodeNumber = s.nodeNumber ∧ (s.withPeers x).advertised = s.advertised := by
  refine ⟨fun _ => rfl, fun _ => rfl, rfl, rfl⟩

@[simp] theorem withDose_reads (x : DoseAccounting) (s : State) :
    (∀ z, (s.withDose x).isTrue z = s.isTrue z) ∧ (∀ z, (s.withDose x).isLatched z = s.isLatched z) ∧
      (s.withDose x).nodeNumber = s.nodeNumber ∧ (s.withDose x).advertised = s.advertised := by
  refine ⟨fun _ => rfl, fun _ => rfl, rfl, rfl⟩

@[simp] theorem withPump_reads (x : PumpSequencer) (s : State) :
    (∀ z, (s.withPump x).isTrue z = s.isTrue z) ∧ (∀ z, (s.withPump x).isLatched z = s.isLatched z) ∧
      (s.withPump x).nodeNumber = s.nodeNumber := by
  refine ⟨fun _ => rfl, fun _ => rfl, rfl⟩

@[simp] theorem withFilter_reads (x : ConcentrationFilter) (s : State) :
    (∀ z, (s.withFilter x).isTrue z = s.isTrue z) ∧ (∀ z, (s.withFilter x).isLatched z = s.isLatched z) ∧
      (s.withFilter x).nodeNumber = s.nodeNumber ∧ (s.withFilter x).advertised = s.advertised := by
  refine ⟨fun _ => rfl, fun _ => rfl, rfl, rfl⟩

@[simp] theorem withStore_reads (x : IntervalStore) (s : State) :
    (∀ z, (s.withStore x).isTrue z = s.isTrue z) ∧ (∀ z, (s.withStore x).isLatched z = s.isLatched z) ∧
      (s.withStore x).nodeNumber = s.nodeNumber ∧ (s.withStore x).advertised = s.advertised := by
  refine ⟨fun _ => rfl, fun _ => rfl, rfl, rfl⟩

@[simp] theorem withPort_reads (x : SupervisoryPort) (s : State) :
    (∀ z, (s.withPort x).isTrue z = s.isTrue z) ∧ (∀ z, (s.withPort x).isLatched z = s.isLatched z) ∧
      (s.withPort x).nodeNumber = s.nodeNumber ∧ (s.withPort x).advertised = s.advertised := by
  refine ⟨fun _ => rfl, fun _ => rfl, rfl, rfl⟩

@[simp] theorem withPending_reads (x : List Instr) (s : State) :
    (∀ z, (s.withPending x).isTrue z = s.isTrue z) ∧ (∀ z, (s.withPending x).isLatched z = s.isLatched z) ∧
      (s.withPending x).nodeNumber = s.nodeNumber ∧ (s.withPending x).advertised = s.advertised := by
  refine ⟨fun _ => rfl, fun _ => rfl, rfl, rfl⟩

@[simp] theorem withChoices_reads (x : Nat) (s : State) :
    (∀ z, (s.withChoices x).isTrue z = s.isTrue z) ∧ (∀ z, (s.withChoices x).isLatched z = s.isLatched z) ∧
      (s.withChoices x).nodeNumber = s.nodeNumber ∧ (s.withChoices x).advertised = s.advertised := by
  refine ⟨fun _ => rfl, fun _ => rfl, rfl, rfl⟩

/-! ## Conditions and latches -/

@[simp] theorem Cond.bit_getLsbD (c d : Cond) : c.bit.getLsbD d.index = decide (d = c) := by
  cases c <;> cases d <;> rfl

theorem Cond.index_lt (c : Cond) : c.index < 16 := by cases c <;> decide

@[simp] theorem Cond.bit_getElem (c d : Cond) (h : d.index < 16) : c.bit[d.index] = decide (d = c) := by
  rw [← BitVec.getLsbD_eq_getElem]; exact Cond.bit_getLsbD c d

theorem raise_isTrue (c d : Cond) (s : State) : (raise c s).isTrue d = s.isTrue d := rfl

theorem raise_isLatched (c d : Cond) (s : State) : (raise c s).isLatched d = (s.isLatched d || decide (d = c)) := by
  simp [raise, State.isLatched]

theorem setLevel_isTrue (c d : Cond) (v : Bool) (s : State) :
    (setLevel c v s).isTrue d = if d = c then v else s.isTrue d := by
  have h := d.index_lt
  by_cases hd : d = c
  · subst hd
    cases v <;> cases hs : s.isTrue d <;> simp_all [setLevel, rise, fall, State.isTrue]
  · cases v <;> cases hs : s.isTrue c <;> simp_all [setLevel, rise, fall, State.isTrue]

theorem setLevel_isLatched (c d : Cond) (v : Bool) (s : State) :
    (setLevel c v s).isLatched d = (s.isLatched d || (decide (d = c) && v && !s.isTrue c)) := by
  cases v <;> cases hs : s.isTrue c <;> simp [setLevel, rise, fall, hs, State.isLatched]

theorem raiseIf_isTrue (v : Bool) (c d : Cond) (f : Flag) (s : State) : (raiseIf v c f s).isTrue d = s.isTrue d := by
  cases v <;> simp [raiseIf, raise_isTrue]

theorem raiseIf_isLatched (v : Bool) (c d : Cond) (f : Flag) (s : State) :
    (raiseIf v c f s).isLatched d = (s.isLatched d || (decide (d = c) && v)) := by
  cases v <;> simp [raiseIf, raise_isLatched]

theorem setLevelFlag_isTrue (c d : Cond) (f : Flag) (v : Bool) (s : State) :
    (setLevelFlag c f v s).isTrue d = if d = c then v else s.isTrue d := by
  simp [setLevelFlag, setLevel_isTrue]

theorem setLevelFlag_isLatched (c d : Cond) (f : Flag) (v : Bool) (s : State) :
    (setLevelFlag c f v s).isLatched d = (s.isLatched d || (decide (d = c) && v && !s.isTrue c)) := by
  simp [setLevelFlag, setLevel_isLatched]

theorem reportPump_isTrue (d : Cond) (s : State) :
    (reportPump s).isTrue d =
      if d = .pumpFault then s.pump.condition == .fault
      else if d = .pumpStrained then s.pump.condition == .available && s.pump.strained
      else s.isTrue d := by
  by_cases h1 : d = .pumpFault
  · subst h1; simp [reportPump, setLevelFlag_isTrue]
  · simp [reportPump, setLevelFlag_isTrue, h1]

theorem reportPump_isLatched (d : Cond) (s : State) (h1 : d ≠ .pumpFault) (h2 : d ≠ .pumpStrained) :
    (reportPump s).isLatched d = s.isLatched d := by
  simp [reportPump, setLevelFlag_isLatched, h1, h2]

/-! ## Dose Accounting -/

theorem setDebt_dose (x : Nat) (s : State) : (setDebt x s).dose = { s.dose with debt := x } := by
  unfold setDebt; split <;> simp_all

theorem setDebt_isTrue (x : Nat) (d : Cond) (s : State) (h1 : d ≠ .pumpFault) (h2 : d ≠ .pumpStrained) :
    (setDebt x s).isTrue d = s.isTrue d := by
  unfold setDebt; split
  · rfl
  · simp only [reportPump_isTrue, h1, h2, if_false]; simp [State.isTrue]

theorem setDebt_isLatched (x : Nat) (d : Cond) (s : State) (h1 : d ≠ .pumpFault) (h2 : d ≠ .pumpStrained) :
    (setDebt x s).isLatched d = s.isLatched d := by
  unfold setDebt; split
  · rfl
  · rw [reportPump_isLatched d _ h1 h2]; simp [State.isLatched]

theorem addReleased_dose (x : Nat) (s : State) :
    (addReleased x s).dose = { s.dose with released := s.dose.released + BitVec.ofNat 64 x } := by
  simp [addReleased]

theorem release_dose (s : State) :
    (release s).dose = { s.dose with debt := 0, released := s.dose.released + BitVec.ofNat 64 s.dose.debt } := by
  unfold release; split
  · next h => simp [h]; cases hd : s.dose; simp_all
  · simp [setDebt_dose, addReleased_dose]

theorem takeIntoDebt_dose (x : Nat) (s : State) :
    (takeIntoDebt x s).dose =
      if s.dose.debt + x ≤ s.ceilingDebt then { s.dose with debt := s.dose.debt + x }
      else { s.dose with debt := s.ceilingDebt,
                         released := s.dose.released + BitVec.ofNat 64 (s.dose.debt + x - s.ceilingDebt) } := by
  unfold takeIntoDebt; split <;> simp [setDebt_dose, addReleased_dose]

theorem surrender_dose (s : State) (x : Nat) (h : x = min s.dose.debt s.peers.lastSharedDebt.toNat) :
    (surrender s).dose =
      { s.dose with debt := s.dose.debt - x, surrendered := s.dose.surrendered + BitVec.ofNat 64 x } := by
  subst h; simp [surrender, setDebt_dose]

theorem debit_dose (s : State) (d : Nat) (h : d = min s.cfg.strokeMass s.dose.debt) :
    (debit s).dose =
      { s.dose with
        debt := s.dose.debt - d, debited := s.dose.debited + BitVec.ofNat 64 d,
        excess := s.dose.excess + BitVec.ofNat 64 (s.cfg.strokeMass - d),
        delivered := s.dose.delivered + BitVec.ofNat 64 s.cfg.strokeMass } := by
  subst h; simp [debit, setDebt_dose]

@[simp] theorem onInterval_ceilingDebt (f : CurrentInterval → CurrentInterval) (s : State) :
    (onInterval f s).ceilingDebt = s.ceilingDebt := rfl

@[simp] theorem withDose_ceilingDebt (x : DoseAccounting) (s : State) : (s.withDose x).ceilingDebt = s.ceilingDebt := rfl

theorem landCharge_dose (x : Nat) (s : State) :
    (landCharge x s).dose =
      if s.filter.throttled then { s.dose with waived := s.dose.waived + BitVec.ofNat 64 x }
      else if s.dose.debt + x ≤ s.ceilingDebt then
        { s.dose with charged := s.dose.charged + BitVec.ofNat 64 x, debt := s.dose.debt + x }
      else
        { s.dose with charged := s.dose.charged + BitVec.ofNat 64 x, debt := s.ceilingDebt,
                      released := s.dose.released + BitVec.ofNat 64 (s.dose.debt + x - s.ceilingDebt) } := by
  unfold landCharge; split
  · simp
  · rw [takeIntoDebt_dose]; simp

theorem charge_dose (w : Nat) (s : State) :
    (charge w s).dose =
      if s.filter.throttled then
        { s.dose with r := s.chargeSum w % chargeUnit,
                      waived := s.dose.waived + BitVec.ofNat 64 (s.chargeSum w / chargeUnit) }
      else if s.dose.debt + s.chargeSum w / chargeUnit ≤ s.ceilingDebt then
        { s.dose with r := s.chargeSum w % chargeUnit,
                      charged := s.dose.charged + BitVec.ofNat 64 (s.chargeSum w / chargeUnit),
                      debt := s.dose.debt + s.chargeSum w / chargeUnit }
      else
        { s.dose with r := s.chargeSum w % chargeUnit,
                      charged := s.dose.charged + BitVec.ofNat 64 (s.chargeSum w / chargeUnit),
                      debt := s.ceilingDebt,
                      released := s.dose.released +
                        BitVec.ofNat 64 (s.dose.debt + s.chargeSum w / chargeUnit - s.ceilingDebt) } := by
  unfold charge; rw [landCharge_dose]; simp; rfl

theorem adopt_dose (k : AdoptionKind) (p o d : Nat) (s : State) :
    (adopt k p o d s).dose =
      let x := shareOf s.advertised d
      let amount := o * x / 65536
      let base := { s.dose with
        adopted := s.dose.adopted + BitVec.ofNat 64 amount,
        lastAdoption := some { kind := k, peer := p, offered := o, denominator := d, share := x, adopted := amount } }
      if s.dose.debt + amount ≤ s.ceilingDebt then { base with debt := s.dose.debt + amount }
      else { base with debt := s.ceilingDebt,
                       released := s.dose.released + BitVec.ofNat 64 (s.dose.debt + amount - s.ceilingDebt) } := by
  unfold adopt; dsimp only; rw [takeIntoDebt_dose]; simp

theorem addUndosed_dose (v : Nat) (s : State) :
    (addUndosed v s).dose =
      { s.dose with undosed := s.dose.undosed + BitVec.ofNat 64 (s.undosedSum v / chargeUnit),
                    ru := s.undosedSum v % chargeUnit } := by
  simp [addUndosed]

theorem release_isTrue (d : Cond) (s : State) (h1 : d ≠ .pumpFault) (h2 : d ≠ .pumpStrained) :
    (release s).isTrue d = s.isTrue d := by
  unfold release; split
  · rfl
  · simp [setDebt_isTrue, h1, h2, raise_isTrue]

theorem release_isLatched (d : Cond) (s : State) (h1 : d ≠ .pumpFault) (h2 : d ≠ .pumpStrained) :
    (release s).isLatched d = (s.isLatched d || (decide (d = .debtReleased) && s.dose.debt != 0)) := by
  unfold release; split
  · next h => simp [h]
  · next h =>
    have h3 : (s.dose.debt != 0) = true := by simpa using h
    simp [setDebt_isLatched, h1, h2, raise_isLatched, h3]

theorem surrender_isTrue (d : Cond) (s : State) (h1 : d ≠ .pumpFault) (h2 : d ≠ .pumpStrained) :
    (surrender s).isTrue d = s.isTrue d := by
  simp [surrender, setDebt_isTrue, h1, h2]

theorem surrender_isLatched (d : Cond) (s : State) (h1 : d ≠ .pumpFault) (h2 : d ≠ .pumpStrained) :
    (surrender s).isLatched d = s.isLatched d := by
  simp [surrender, setDebt_isLatched, h1, h2]

/-! ## The tally line -/

theorem makePending_tally (f : Frame) (s : State) :
    (makePending f s).tally =
      { s.tally with
        pending := some { frame := f, builtShared := s.peers.mode == .shared }, sequence := s.tally.sequence + 1,
        attempt := 0, transmitter := if s.tally.lineIdle then .holdoff else .defer, holdoff := s.nodeNumber * 8 } := by
  simp [makePending, holdoffLength]

theorem countAbandoned_tally (r : Bool) (s : State) :
    (countAbandoned r s).tally =
      { s.tally with abandoned := s.tally.abandoned + 1,
                     replaced := if r then s.tally.replaced + 1 else s.tally.replaced,
                     consecutive := min 255 (s.tally.consecutive + 1) } := by
  simp [countAbandoned]

theorem countAbandoned_isTrue (r : Bool) (d : Cond) (s : State) :
    (countAbandoned r s).isTrue d =
      if d = .linkFault then decide (8 ≤ min 255 (s.tally.consecutive + 1)) else s.isTrue d := by
  simp [countAbandoned, testLinkFault, setLevel_isTrue]

theorem silence_tally (s : State) :
    (silence s).tally = { s.tally with transmitter := .silent, pending := none, owed := .none, attempt := 0 } := rfl

theorem fallDue_silent (k : Owed) (s : State) (h : s.tally.transmitter = .silent) : fallDue k s = s := by
  simp [fallDue, h]

/-! ## The Peer Table -/

theorem setEntry_same (t : PeerTable) (n : Nat) (e : Entry) (h : n - 1 < t.entries.length) :
    (t.setEntry n e).entry n = e := by
  simp [PeerTable.setEntry, PeerTable.entry, h]

theorem setEntry_other (t : PeerTable) (n m : Nat) (e : Entry) (h : n - 1 ≠ m - 1) :
    (t.setEntry n e).entry m = t.entry m := by
  simp [PeerTable.setEntry, PeerTable.entry, List.getElem?_set_ne h]

theorem setEntry_length (t : PeerTable) (n : Nat) (e : Entry) : (t.setEntry n e).entries.length = t.entries.length := by
  simp [PeerTable.setEntry]

/-! ## Modes -/

theorem setMode_peers (m : Mode) (s : State) : (setMode m s).peers = { s.peers with mode := m } := by
  simp [setMode]

theorem leaveShared_peers (c : SoloCause) (s : State) : (leaveShared c s).peers = { s.peers with mode := .solo c } := by
  simp [leaveShared, setMode_peers]

theorem setMode_isTrue (m : Mode) (d : Cond) (s : State) :
    (setMode m s).isTrue d =
      if d = .alone then m == .solo .alone else if d = .unheard then m == .solo .unheard else s.isTrue d := by
  by_cases h : d = .alone
  · subst h; simp [setMode, setLevel_isTrue]
  · simp [setMode, setLevel_isTrue, h]

/-! ## The Pump Sequencer -/

theorem setCondition_pump (c : PumpCondition) (s : State) :
    (setCondition c s).pump =
      { s.pump with
        condition := c,
        stroke := if s.pump.condition == .priming && c != .priming then
            s.pump.stroke.map fun k => { k with counts := false }
          else s.pump.stroke } := by
  simp [setCondition]

theorem setCondition_isTrue (c : PumpCondition) (d : Cond) (s : State) :
    (setCondition c s).isTrue d =
      if d = .pumpFault then c == .fault
      else if d = .pumpStrained then c == .available && s.pump.strained
      else s.isTrue d := by
  simp [setCondition, reportPump_isTrue]

theorem testStart_of_not (s : State) (h : s.mayStart = false) : testStart s = s := by simp [testStart, h]

theorem startIfChanged_same (s t : State) (h : t.startInputs = s.startInputs) : startIfChanged s t = t := by
  simp [startIfChanged, h]

theorem startIfChanged_of_not (s t : State) (h : t.mayStart = false) : startIfChanged s t = t := by
  unfold startIfChanged; split
  · rfl
  · exact testStart_of_not t h

/-- A command ends with a start only where the conditions hold, and otherwise with what it made. -/
theorem startIfChanged_cases (s t : State) :
    startIfChanged s t = t ∨ (t.mayStart = true ∧ startIfChanged s t = beginStroke t) := by
  cases h : t.mayStart
  · exact .inl (startIfChanged_of_not s t h)
  · unfold startIfChanged testStart
    split
    · exact .inl rfl
    · exact .inr ⟨rfl, rfl⟩

/-! ## The Supervisory Port -/

/-- A command taken or refused changes only the port, which then stands as recorded. -/
theorem recordCommand_eq (c : Byte) (r : CommandResult) (i : Nat) (s : State) :
    recordCommand c r i s = s.withPort (s.port.recorded s.clock c r i) := by
  simp [recordCommand, recordLast, latch, commandBytes, lastCommandBytes, time32, count32, bigEndian, CommandKind.code,
    SupervisoryPort.recorded]

/-- The start of a stroke is the Pump Sequencer's alone. -/
theorem beginStroke_eq (s : State) : beginStroke s = s.withPump (s.pump.begun s.clock) := rfl

/-! ## The operations in the figures the statements use -/

/-- A change of the debt tests both watermarks (R136). -/
theorem setDebt_watermarks (x : Nat) (s : State) : WatermarksTested s (setDebt x s) := by
  unfold WatermarksTested setDebt testWatermarks
  by_cases h : x = s.dose.debt
  · simp [h]
  · by_cases h2 : x < s.cfg.hysteresis * s.cfg.strokeMass
    · simp [h, h2]
    · simp [h, h2]; exact ⟨rfl, rfl⟩

theorem takeIntoDebt_took (x : Nat) (s : State) : (takeIntoDebt x s).dose = s.dose.took s.ceilingDebt x :=
  takeIntoDebt_dose x s

theorem charge_charging (w : Nat) (s : State) :
    (charge w s).dose = s.dose.charging s.ceilingDebt (s.chargeSum w) s.filter.throttled := by
  rw [charge_dose]; unfold DoseAccounting.charging DoseAccounting.took; rfl

theorem surrender_surrendering (s : State) : (surrender s).dose = s.dose.surrendering s.peers.lastSharedDebt :=
  surrender_dose s _ rfl

theorem adopt_adopting (k : AdoptionKind) (p o rest : Nat) (s : State) :
    (adopt k p o (s.advertised + rest) s).dose = s.dose.adopting s.ceilingDebt k p o s.advertised rest := by
  rw [adopt_dose]; unfold DoseAccounting.adopting DoseAccounting.took shareBeside; rfl

/-- An own frame that has not been followed by an idle line is known by its mark alone (R55). -/
theorem isOwnFrame_of_not_idle (s : State) (f : Frame) (bytes : List Byte) (own : s.tally.ownOnLine = some f)
    (idle : s.tally.lineIdle = false) : s.isOwnFrame bytes = true := by
  simp [State.isOwnFrame, own, idle]

/-- Once the line has been idle, an own frame is known by the bytes that were sent (R55). -/
theorem isOwnFrame_of_prefix (s : State) (f : Frame) (bytes : List Byte) (own : s.tally.ownOnLine = some f)
    (sent : f.bytes <+: bytes) : s.isOwnFrame bytes = true := by
  simp [State.isOwnFrame, own, List.isPrefixOf_iff_prefix.mpr sent]

/-- The node's own frame is passed over: only the line is idle, and the mark is spent (R53, R55). -/
theorem execFrameEnd_own (bytes : List Byte) (x y : Bool) (s : State) (on : s.tally.receiver = .on)
    (own : s.isOwnFrame bytes = true) :
    execFrameEnd bytes x y s = .next (s.withTally { s.tally with lineIdle := true, ownOnLine := none }) := by
  simp [execFrameEnd, on, own]

/-- The bytes of a write transaction only join the queue. -/
theorem withWrite_eq (s : State) (e : WriteEnd) (bytes : List Byte) :
    s.withWrite e bytes = { s with pending := s.pending ++ readWrite e bytes } := rfl

end Sys2Proof.Machine
end

