-- ==== Sys2Proof/Tests/Slice0.lean ====
section
/-! SUPPORT. The tests: the WellFormed smoke, values from the manual's worked examples, one step each, and for every
statement with hypotheses a witness that meets them. -/

namespace Sys2Proof.Machine.Tests

open Sys2Proof Sys2Proof.Machine

/-! ## WellFormed refuses what is ill-formed -/

theorem test_wellFormed_frame_of_29_bytes : (Instr.frameEnd (List.replicate 29 0) false false).wellFormed = false := by
  decide

theorem test_wellFormed_overLong_frame_of_27_bytes : (Instr.frameEnd (List.replicate 27 0) false true).wellFormed = false := by
  decide

theorem test_wellFormed_expiry_of_node_0 : (Instr.peerExpiry 0).wellFormed = false := by decide

theorem test_wellFormed_expiry_of_node_17 : (Instr.peerExpiry 17).wellFormed = false := by decide

theorem test_wellFormed_peer_of_node_0 : (Instr.peer 0).wellFormed = false := by decide

theorem test_wellFormed_config_offset_151 : (Instr.config 151).wellFormed = false := by decide

theorem test_wellFormed_config_write_offset_151 : (Instr.configWrite 151 [0] true).wellFormed = false := by decide

theorem test_wellFormed_config_write_without_data : (Instr.configWrite 0 [] true).wellFormed = false := by decide

theorem test_wellFormed_unknown_with_the_code_of_start : (Instr.unknown 1).wellFormed = false := by decide

theorem test_wellFormed_boundaries : (Instr.peerExpiry 16).wellFormed = true ∧ (Instr.config 150).wellFormed = true ∧
    (Instr.unknown 9).wellFormed = true ∧ (Instr.frameEnd (List.replicate 28 0) false true).wellFormed = true := by
  decide

/-! ## Small states -/

/-- The fields in force: the configuration of the manual's worked sequences. -/
def fields : Cfg :=
  { Cfg.none with
    pulseWeight := 400000, dualPulse := 1, mismatchLimit := 2, plo := 3500000, phi := 7000000, tlo := 26315, thi := 31315,
    pressureFallback := 4000000, temperatureFallback := 28815, holdCycles := 3, basePressure := 101325,
    baseTemperature := 28815, pointCount := 2,
    points := [(4000000, 70779), (6000000, 73400), (0, 0), (0, 0), (0, 0), (0, 0), (0, 0), (0, 0)],
    doseTarget := 160, strokeMass := 180000, capacityClass := 3, low := 1, high := 3, strain := 5, ceiling := 8,
    hysteresis := 2, fillTime := 200, driveTime := 300, confirmWindow := 400, recoverTime := 500, minSpacing := 1200,
    pacedSpacing := 6000, windowLength := 10000, windowCap := 4, missLimit := 3, primeCount := 2, tallyInterval := 500,
    filterShift := 2, filterPeriod := 30, vmin := 10000, upperLimit := 200, throttleHysteresis := 20,
    lowerLimit := 140, lowDwell := 1, intervalLength := 15 }

/-- An interval open since the clock read 4,000. -/
def interval : CurrentInterval :=
  { openTime := 4000, startActual := 0, startBase := 0, startHeader := 0, cycles := 0, sumPf := 0, sumTf := 0,
    delivered := 0, charged := 0, adopted := 0, released := 0, surrendered := 0, waived := 0, undosed := 0, strokes := 0,
    missed := 0, leastLive := 0, flags := 0 }

/-- A node in a mode with a pump AVAILABLE, at the clock 5,000. -/
def node (m : Mode) : State :=
  { State.reset with
    clock := 5000, cfg := fields, peers := { PeerTable.reset with mode := m },
    pulse := { PulseCounter.reset false false with cycleStart := some 4000 },
    tally := { TallyLine.reset with receiver := .on, timerStart := some 4500 },
    pump := { PumpSequencer.reset false with condition := .available },
    filter := { ConcentrationFilter.reset with average := 40960, periodStart := some 4000 },
    store := { IntervalStore.reset with current := some interval, timerStart := some 4000 },
    port := { SupervisoryPort.reset [] with blockState := .locked } }

/-- A TALLY of node 3 with sequence 9. -/
def tally3 : TallyFrame :=
  { node := 3, sequence := 9, intervalCode := 2, shared := true, capacity := 2, litres := 1000, delivered := 500,
    released := 70, debt := 90000, target := 160, heard := 1 }

/-- The LIVE fields that a TALLY of node 3 with sequence 8 has left. -/
def live3 : LiveFields :=
  { shared := true, sequence := 8, interval := 500, capacity := 2, litres := 1000, delivered := 500, released := 20,
    debt := 90000, sharedDebt := some 90000, target := 160, differs := false, listed := true }

/-- A node in a mode that holds node 3 as LIVE. -/
def withPeer (m : Mode) : State :=
  { node m with peers := { (PeerTable.reset.setEntry 3
      { status := .live live3, lastHeard := 3000, lost := 0, implausible := 0 }) with
      mode := m, lastListed := some 1000, lastSharedDebt := 50000 } }

/-- A stroke in flight in a phase that began at 4,000. -/
def stroke (p : StrokePhase) : Stroke :=
  { prime := false, start := 3000, confirmed := false, counts := false, phase := p, phaseStart := 4000 }

/-- A SOLO node with a stroke in flight. -/
def stroking (p : StrokePhase) : State :=
  { node (.solo .starting) with pump := { (node (.solo .starting)).pump with stroke := some (stroke p), history := [3000] } }

/-- The bytes of the configuration block that START accepts: each field of `fields` at its place, then the CRC. -/
def payload : List Byte :=
  bigEndian 4 400000 ++ [1, 2, 20, 21] ++ bigEndian 4 3500000 ++ bigEndian 4 7000000 ++ bigEndian 2 26315 ++
    bigEndian 2 31315 ++ bigEndian 4 4000000 ++ bigEndian 2 28815 ++ [3] ++ bigEndian 4 101325 ++ bigEndian 2 28815 ++
    [2] ++ bigEndian 4 4000000 ++ bigEndian 4 70779 ++ bigEndian 4 6000000 ++ bigEndian 4 73400 ++
    List.replicate 48 0 ++ bigEndian 2 160 ++ bigEndian 4 180000 ++ [3, 1, 3, 5, 8, 2] ++ bigEndian 2 200 ++
    bigEndian 2 300 ++ bigEndian 2 400 ++ bigEndian 2 500 ++ bigEndian 2 1200 ++ bigEndian 4 6000 ++
    bigEndian 2 10000 ++ [4, 3, 2] ++ bigEndian 2 500 ++ [2, 30] ++ bigEndian 4 10000 ++ bigEndian 2 200 ++
    bigEndian 2 20 ++ bigEndian 2 140 ++ [1, 15] ++ bigEndian 2 0 ++ bigEndian 2 0

/-- The whole block. -/
def block : List Byte := payload ++ bigEndian 2 (crc16 payload).toNat

/-- A node after reset whose block has been written with these bytes. -/
def written (b : List Byte) : State :=
  { State.reset with port := { State.reset.port with block := b, blockState := .written } }

/-- What a command leaves. -/
def after! (c : Instr) (s : State) : State :=
  match exec c s with
  | .next t => t
  | .fault _ => s
  | .refused _ => s

/-! ## Values of the manual -/

/-- R54: the check figure of the CRC over the characters 1 to 9. -/
theorem test_crc_check_figure : crc16 [0x31, 0x32, 0x33, 0x34, 0x35, 0x36, 0x37, 0x38, 0x39] = 10673#16 := by
  decide +kernel

/-- Section 3.3: the worked lookups of the factor. -/
theorem test_factor_worked_lookups :
    (List.map (fun p => factorAt p fields.pointsInUse) [3500000, 4000000, 4053000, 4060000, 5000000, 6000000, 7000000]) =
      [70779, 70779, 70848, 70857, 72089, 73400, 73400] := by decide +kernel

/-- Section 8.3: the example filter steps with k = 2 from A = 40,960. -/
theorem test_average_worked_steps :
    (List.map (fun s => nextAverage 40960 s 2) [166, 480, 0, 160]) = [41344, 61440, 30720, 40960] := by decide +kernel

/-- Section 8.3: the worked sample of 166. -/
theorem test_sample_worked_case : rawSample 43242187500 720000 = 166 := by decide +kernel

/-- R97: capacities 3 among 9 take 21,845 each, and 3 among 8 takes 24,576. -/
theorem test_share_worked_cases : shareOf 3 9 = 21845 ∧ shareOf 3 8 = 24576 ∧ shareOf 2 8 = 16384 := by decide

/-- R137: a STRAINED pump of class 1, 3 and 15 advertises 1, 1 and 7. -/
theorem test_strained_capacity :
    (List.map (fun c => ({ node .shared with
      cfg := { fields with capacityClass := c },
      pump := { (node .shared).pump with strained := true } } : State).advertised) [1, 3, 15]) = [1, 1, 7] := by
  decide

/-- R177, R198: the STATUS snapshot after a cold reset. -/
theorem test_reset_snapshot : statusBytes State.reset = State.resetSnapshot := by decide +kernel

/-- The two bytes that close a list of bytes hold the number written there. -/
theorem fieldAt_end (p : List Byte) (n : Nat) (h : n < 65536) : fieldAt (p ++ bigEndian 2 n) p.length 2 = n := by
  simp [fieldAt, fromBytes, bigEndian]; omega

theorem payload_length : payload.length = 149 := by decide +kernel

theorem block_take : block.take 149 = payload := by
  rw [← payload_length]; exact List.take_left' rfl

/-- R180, test 3: the block above carries the CRC of its first 149 bytes. -/
theorem test_block_crc : crc16 (block.take 149) = BitVec.ofNat 16 (fieldAt block 149 2) := by
  have h : fieldAt block 149 2 = (crc16 payload).toNat := by
    rw [← payload_length]; exact fieldAt_end payload _ (crc16 payload).isLt
  rw [block_take, h]; simp

/-- R180, test 4: every field of the block above passes its check. -/
theorem test_block_fields : ∀ i, 1 ≤ i → i ≤ 60 → checkField (readBlock block) i = true := by
  have h : (List.range' 1 60).all (fun i => checkField (readBlock block) i) = true := by decide +kernel
  intro i h1 h2
  exact List.all_eq_true.mp h i (List.mem_range'_1.mpr ⟨h1, by omega⟩)

/-- R142: the first prime stroke begins at the instant START is accepted. -/
theorem test_start_begins_priming :
    (startIfChanged (written block) (startNode (written block))).pump.condition = .priming ∧
      strokePhaseCode (startIfChanged (written block) (startNode (written block))).pump.stroke = 1 := by decide +kernel

/-- R54, R196: a built frame is read back. -/
theorem test_frame_read_back : judge (Frame.tally tally3).bytes false false = .good (.tally tally3) := by decide +kernel

/-- R25: a value above the upper limit is clamped and marked. -/
theorem test_transaction_clamps :
    (after! (.transactionEnd 8000000 1)
      { node .shared with sensor := { SensorBus.reset with
          pressure := { Transmitter.reset with phase := .data } } }).sensor.pressure.lastGood = some 7000000 := by
  decide +kernel

/-- R6: the mark is set only when an edge is lost. -/
theorem test_saturation :
    let s := { node .shared with pulse := { (node .shared).pulse with a := 8190 } }
    let edge (s : State) := after! (.pulseEdge (.high .a)) (after! (.pulseEdge (.low .a)) s)
    (edge s).pulse.satA = false ∧ (edge (edge s)).pulse.satA = true := by decide +kernel

/-- R4: a level that stands is no edge, and neither is one that falls. -/
theorem test_standing_level_is_no_edge :
    let s := { node .shared with pulse := { (node .shared).pulse with levelA := true } }
    (after! (.pulseEdge (.high .a)) s).pulse.a = 0 ∧ (after! (.pulseEdge (.low .a)) s).pulse.a = 0 ∧
      (after! (.pulseEdge (.high .a)) (after! (.pulseEdge (.low .a)) s)).pulse.a = 1 := by decide +kernel

/-- R118: a high level is one pulse, and the next comes after the level has fallen. -/
theorem test_high_level_is_one_pulse :
    (after! .confirmationPulse (after! .confirmationPulse (node .parked))).pump.stray = 1 ∧
      (after! .confirmationPulse (after! (.pulseEdge (.low .confirmation))
        (after! .confirmationPulse (node .parked)))).pump.stray = 2 := by decide +kernel

/-- R20: acknowledged bytes take a transaction from ADDRESS WRITE to STOP. -/
theorem test_transaction_goes_on :
    (List.map (fun p => (after! .busReleased { node .shared with sensor := { SensorBus.reset with
        pressure := { Transmitter.reset with phase := p, checkStart := 5000 } } }).sensor.pressure.phase)
      [.startCheck, .addressWrite, .pointer, .addressRead, .data, .stop, .recovery]) =
      [.addressWrite, .pointer, .addressRead, .data, .stop, .stop, .recovery] := by decide +kernel

/-- R174, R198: write transactions written out by hand from the tables: STATUS, PEER 16 with a byte too many, RECORD
4,294,967,295, NEXT RECORD cut off, CONFIG 150, a configuration write at 2, START, an unknown code, a bare COMMAND, a
parameter that ends early, a selector out of the table, and the address alone. -/
theorem test_write_transactions :
    (readWrite .stopped [1], readWrite .stopped [3, 16, 0], readWrite .stopped [4, 255, 255, 255, 255]) =
        ([.status], [.peer 16, .unrecognisedSelector], [.record 4294967295]) ∧
      (readWrite .cut [5], readWrite .stopped [6, 0, 150], readWrite .stopped [6, 0, 2, 9, 8]) =
        ([.nextRecord, .transactionAbandoned], [.config 150], [.configWrite 2 [9, 8] true]) ∧
      (readWrite .stopped [7, 1], readWrite .stopped [7, 9], readWrite .stopped [7], readWrite .stopped [6, 1]) =
        ([.start], [.unknown 9], [.commandSelector], [.writeEndedPartWay]) ∧
      (readWrite .stopped [8], readWrite .stopped [0], readWrite .stopped []) =
        ([.unrecognisedSelector], [.unrecognisedSelector], []) ∧
      (readWrite .stopped [3, 17, 5], readWrite .stopped [6, 0, 151, 1]) = ([.peer 17], [.config 151]) := by
  decide +kernel

/-- R53, R55: the frame that the node has just sent is not counted and does not silence it, whether its end is taken before
the idle line of the same instant or after, and whatever came behind it. -/
theorem test_own_frame_is_not_judged :
    let f : Frame := .leave { node := 1, sequence := 0, released := 0 }
    let s : State := { node .shared with tally := { (node .shared).tally with ownOnLine := some f } }
    let ends (bytes : List Byte) (s : State) := (after! (.frameEnd bytes true false) s).tally
    ends (f.bytes ++ [0]) s = ends (f.bytes ++ [0]) (after! .lineIdle s) ∧ (ends (f.bytes ++ [0]) s).badReceived = 0 ∧
      (after! (.frameEnd f.bytes false false) (after! .lineIdle s)).tally.goodReceived = 0 ∧
      (after! (.frameEnd f.bytes false false) (after! .lineIdle s)).tally.transmitter = .empty ∧
      (after! (.frameEnd f.bytes false false) { s with tally := { s.tally with ownOnLine := none } }).tally.transmitter =
        .silent := by decide +kernel

/-- R86, R132, R139: a start that the adoption at the expiry of the last LIVE entry makes due is made before the surrender
that follows it. -/
theorem test_start_between_adoption_and_surrender :
    let s : State := { withPeer .shared with peers := { (withPeer .shared).peers with
      entries := (withPeer .shared).peers.entries.set 2
        { status := .live { live3 with debt := 190000 }, lastHeard := 3000, lost := 0, implausible := 0 },
      lastSharedDebt := 190000 } }
    (after! (.peerExpiry 3) s).dose.debt = 0 ∧ (after! (.peerExpiry 3) s).pump.started = 1 := by decide +kernel

/-- R133: a stroke withheld by the window cap starts when an entry leaves. -/
theorem test_history_lets_a_stroke_start :
    (after! .historyEntryLeaves { node .shared with
      clock := 20000, dose := { DoseAccounting.reset with debt := 180000 },
      pump := { (node .shared).pump with history := [10000, 11200, 12400, 13600], lastStart := some 13600 } }).pump.history =
      [11200, 12400, 13600, 20000] := by decide +kernel

/-! ## Witnesses: states that meet the hypotheses of the statements -/

/-- A SHARED node that holds a LIVE peer, with MARK waiting: every invariant holds at it, and it steps. -/
def running : State := { withPeer .shared with pending := [.mark] }

theorem running_steps : ∃ t, step running = .next t := ⟨_, rfl⟩

theorem running_isCold : ColdUntilStart running := by intro h; cases h

theorem witness_IdleTakesDueEventOrTicks :
    (State.reset.pending = [] ∧ State.reset.dueCommands = []) ∧ ((withPeer .shared).pending = [] ∧ (withPeer .shared).dueCommands ≠ []) := by
  decide +kernel

theorem witness_CommandsNeverStopAndKeepTheClock : ∀ n a x y z, Instr.start ≠ .coldReset n a x y z := by
  intro n a x y z h; cases h

theorem written_isCold : ColdUntilStart (written block) := by intro _; decide

theorem witness_StartStartsEveryBlock :
    ColdUntilStart (written block) ∧ (written block).peers.mode = .config ∧ (written block).port.blockState = .written ∧
      crc16 ((written block).port.block.take 149) = BitVec.ofNat 16 (fieldAt (written block).port.block 149 2) ∧
      ∀ i, 1 ≤ i → i ≤ 60 → checkField (readBlock (written block).port.block) i = true :=
  ⟨written_isCold, rfl, rfl, test_block_crc, test_block_fields⟩

/-- A block of zeros with the CRC FFFF of no bytes is refused by its CRC; with its own CRC the first field fails. -/
def zeros : List Byte := List.replicate 149 0 ++ bigEndian 2 (crc16 (List.replicate 149 0)).toNat

/-- The block above with the class of the last field, the interval length, out of range, and its own CRC. -/
def badLast : List Byte := payload.set 144 61 ++ bigEndian 2 (crc16 (payload.set 144 61)).toNat

theorem crc_of_own (p : List Byte) (h : p.length = 149) :
    crc16 ((p ++ bigEndian 2 (crc16 p).toNat).take 149) =
      BitVec.ofNat 16 (fieldAt (p ++ bigEndian 2 (crc16 p).toNat) 149 2) := by
  rw [← h, List.take_left' rfl, fieldAt_end p _ (crc16 p).isLt]; simp

theorem witness_StartRefusedChangesOnlyTheRecord :
    running.peers.mode ≠ .config ∧ State.reset.port.blockState = .absent ∧
      ((written [1]).port.blockState ≠ .absent ∧
        crc16 ((written [1]).port.block.take 149) ≠ BitVec.ofNat 16 (fieldAt (written [1]).port.block 149 2)) ∧
      (crc16 (zeros.take 149) = BitVec.ofNat 16 (fieldAt zeros 149 2) ∧ checkField (readBlock zeros) 1 = false) ∧
      (crc16 (badLast.take 149) = BitVec.ofNat 16 (fieldAt badLast 149 2) ∧ checkField (readBlock badLast) 58 = false ∧
        ∀ j, 1 ≤ j → j < 58 → checkField (readBlock badLast) j = true) := by
  refine ⟨by decide, by decide, by decide +kernel, ⟨crc_of_own _ (by simp), by decide +kernel⟩,
    crc_of_own _ (by decide +kernel), by decide +kernel, ?_⟩
  have h : (List.range' 1 57).all (fun i => checkField (readBlock badLast) i) = true := by decide +kernel
  intro i h1 h2
  exact List.all_eq_true.mp h i (List.mem_range'_1.mpr ⟨h1, by omega⟩)

theorem witness_ConfigurationIsLockedUntilColdReset :
    running.peers.mode ≠ .config ∧ running.port.blockState = .locked ∧ ∃ t, exec .mark running = .next t :=
  ⟨by decide, rfl, _, rfl⟩

/-- A node silenced by a duplicate number. -/
def silenced : State :=
  { node (.solo .duplicate) with tally := { (node .shared).tally with transmitter := .silent } }

theorem witness_SilencedUntilColdReset :
    silenced.tally.transmitter = .silent ∧ ∃ t, exec .tallyTimerExpiry silenced = .next t := ⟨rfl, _, rfl⟩

theorem witness_BlocksMoveOnlyAtTheirOwnCommands : ∃ t, exec .frameSent running = .next t := ⟨_, rfl⟩

/-- A SHARED node whose debt stands at the low watermark. -/
def owing : State := 
  { node .shared with dose := { DoseAccounting.reset with debt := 180000, charged := 180000 }, pending := [.mark] }

/-- The three forms of a start: a dosing stroke, a prime stroke, and one at the end of RECOVER. -/
theorem witness_StrokesStartOnlyUnderTheStartConditions :
    (∃ t, exec .strokeStart owing = .next t ∧ t.pump.started = owing.pump.started + 1) ∧
      (let s : State := { owing with pump := { owing.pump with condition := .priming, primeRemaining := 1 } };
        ∃ t, exec .strokeStart s = .next t ∧ t.pump.started = s.pump.started + 1 ∧ t.pump.condition = .priming) ∧
      (let s : State := { owing with pump := { owing.pump with stroke := some (stroke .recover) } };
        s.pump.stroke ≠ none ∧ ∃ t, exec .recoverEnd s = .next t ∧ t.pump.started = s.pump.started + 1) :=
  ⟨⟨_, rfl, rfl⟩, ⟨_, rfl, rfl, rfl⟩, by decide, _, rfl, rfl⟩

theorem witness_NoStartIsLeftWaiting :
    ∃ t, exec .spacingRunsOut owing = .next t ∧ t.startInputs ≠ owing.startInputs := ⟨_, rfl, by decide⟩

theorem witness_StepKeepsColdUntilStart :
    ColdUntilStart State.reset ∧ ColdUntilStart running ∧ ∃ t, step State.reset = .next t :=
  ⟨by intro _; decide, running_isCold, _, rfl⟩

theorem witness_StepKeepsRunningAfterStart :
    ColdUntilStart running ∧ RunningAfterStart running ∧ ∃ t, step running = .next t :=
  ⟨running_isCold, by intro _; decide, running_steps⟩

theorem witness_StepKeepsDoseBalance : DoseBalanced owing.dose ∧ ∃ t, step owing = .next t :=
  ⟨⟨by decide, by decide⟩, _, rfl⟩

theorem witness_StepKeepsDebtWithinCeiling : ColdUntilStart owing ∧ DebtBounded owing ∧ ∃ t, step owing = .next t :=
  ⟨(by intro h; cases h), by show DebtBounded owing; unfold DebtBounded; decide, _, rfl⟩

theorem witness_StepKeepsFiguresBounded : RemaindersBounded running ∧ AverageBounded running ∧ ∃ t, step running = .next t :=
  ⟨by unfold RemaindersBounded; decide, by unfold AverageBounded; decide, running_steps⟩

theorem witness_StepKeepsPumpMarks :
    ColdUntilStart running ∧ HistoryBounded running ∧ MarksOrdered running ∧ ∃ t, step running = .next t :=
  ⟨running_isCold, by unfold HistoryBounded; decide, by unfold MarksOrdered; decide, running_steps⟩

/-- A ring of the two records before the next sequence. -/
def ringed : State :=
  let r : IntervalRecord := running.closingRecord .timer interval
  { running with store := { running.store with ring := [{ r with sequence := 4294967295 }, { r with sequence := 0 }],
                                               nextSequence := 1 } }

theorem ringed_isConsecutive : RingConsecutive ringed.store := by
  refine ⟨by decide, fun i r h => ?_⟩
  match i, h with
  | 0, h => cases h; rfl
  | 1, h => cases h; rfl
  | i + 2, h => simp [ringed] at h

theorem witness_StepKeepsRingConsecutive : RingConsecutive ringed.store ∧ ∃ t, step ringed = .next t :=
  ⟨ringed_isConsecutive, _, rfl⟩

theorem witness_StepKeepsLatches : LatchesHold running.alarm ∧ ∃ t, step running = .next t :=
  ⟨by unfold LatchesHold; decide, running_steps⟩

theorem witness_StepKeepsConditionsWithTheirOwners : ConditionsFollow running ∧ ∃ t, step running = .next t :=
  ⟨by unfold ConditionsFollow; decide, running_steps⟩

theorem witness_StepKeepsTransmitterConsistent : TransmitterConsistent running.tally ∧ ∃ t, step running = .next t :=
  ⟨by unfold TransmitterConsistent; decide, running_steps⟩

theorem witness_StepKeepsOwnEntryAbsent : OwnEntryAbsent running ∧ ∃ t, step running = .next t :=
  ⟨by unfold OwnEntryAbsent; decide, running_steps⟩

theorem witness_StepKeepsSensorBus :
    ColdUntilStart running ∧ ValuesWithinLimits running ∧ OneTransaction running.sensor ∧ ∃ t, step running = .next t := by
  refine ⟨running_isCold, fun q => ?_, by unfold OneTransaction; decide, running_steps⟩
  cases q <;> refine ⟨by decide, fun v h => ?_, by unfold Cfg.inLimits; decide⟩ <;> cases h

/-- A node in START CHECK for its 50 ms, with a low-dwell timer and a stroke history at their ends. -/
def timed : State :=
  { running with
    clock := 65000, cfg := { fields with windowLength := 10000 },
    pulse := { running.pulse with cycleStart := some 64000 }, tally := { running.tally with timerStart := some 64500 },
    store := { running.store with timerStart := some 4000 },
    filter := { running.filter with dwell := .running 5000, periodStart := some 64000 },
    sensor := { SensorBus.reset with pressure := { Transmitter.reset with phase := .startCheck, checkStart := 64950 } },
    pump := { running.pump with history := [55000, 60000, 65000] },
    peers := { running.peers with entries := (running.peers.entries.set 2
      { status := .live live3, lastHeard := 63000, lost := 0, implausible := 0 }) } }

theorem timed_history : HistoryKept timed.clock timed.pump.history timed.cfg.windowLength := by
  have h : timed.cfg.windowLength = 10000 := rfl
  refine ⟨by rw [h]; norm_num, by decide, fun t m => ?_⟩
  simp only [timed, List.mem_cons, List.not_mem_nil, or_false] at m
  rcases m with rfl | rfl | rfl <;> (rw [h]; decide)

theorem witness_StepKeepsTimers : ColdUntilStart timed ∧ TimersKept timed ∧ ∃ t, step timed = .next t := by
  refine ⟨(by intro h; cases h), ⟨?_, ?_, ?_, ?_, ?_, ?_, ?_, ?_, timed_history⟩, _, rfl⟩
  · intro t h; cases h; decide
  · intro t h; cases h; decide
  · intro t h; cases h; decide
  · intro t h; cases h; decide
  · intro k h; cases h
  · have h : (List.range' 1 16).all (fun n => match (timed.peers.entry n).status with
        | .live f => decide (elapsed timed.clock (timed.peers.entry n).lastHeard ≤ 4 * f.interval)
        | _ => true) = true := by decide
    intro n f h1 h2 hf
    have := List.all_eq_true.mp h n (List.mem_range'_1.mpr ⟨h1, by omega⟩)
    simpa [hf] using this
  · intro t h; cases h; decide
  · intro q h _; cases h; decide

theorem witness_BuiltFramesAreReadBack :
    (1 ≤ (Frame.tally tally3).node.toNat ∧ (Frame.tally tally3).node.toNat ≤ 16) ∧
      (∀ g, Frame.tally tally3 = .tally g →
        1 ≤ g.intervalCode.toNat ∧ g.intervalCode.toNat ≤ 8 ∧ g.capacity.toNat ≤ 15) ∧
      ((Instr.peer 16).wellFormed = true ∧ writeBytes (.peer 16) = some [3, 16]) ∧
      ((Instr.configWrite 150 [7] true).wellFormed = true ∧
        writeBytes (.configWrite 150 [7] true) = some [6, 0, 150, 7]) ∧
      ((Instr.unknown 255).wellFormed = true ∧ writeBytes (.unknown 255) = some [7, 255]) ∧
      ((0 : Byte).toNat = 0 ∧ 7 < (8 : Byte).toNat ∧ 8 < (9 : Byte).toNat ∧ [(1 : Byte), 2, 3].length < 4) := by
  refine ⟨by decide, fun g h => ?_, by decide, by decide, by decide, by decide⟩
  cases h; decide

theorem witness_ShareIsCapacityOverDenominator :
    (running.advertised = 3 ∧ running.peers.mode = .shared ∧ running.denominator = 5) ∧
      (State.reset.advertised = 0) ∧ ((node (.solo .starting)).peers.mode.isSolo = true ∧
      0 < (node (.solo .starting)).advertised) := by decide

theorem witness_CombinedFactorLiesBetweenItsBounds :
    2 ≤ fields.pointCount ∧ fields.pointCount ≤ fields.points.length ∧ 0 < fields.basePressure ∧ 0 < fields.tlo ∧
      (∀ i, i + 1 < fields.pointCount → fields.pointPressure i < fields.pointPressure (i + 1) ∧
        fields.pointFactor i ≤ fields.pointFactor (i + 1)) ∧
      fields.plo ≤ 3500000 ∧ 7000000 ≤ fields.phi ∧ fields.tlo ≤ 26315 ∧ 31315 ≤ fields.thi := by
  refine ⟨by decide, by decide, by decide, by decide, fun i h => ?_, by decide, by decide, by decide, by decide⟩
  have h2 : i = 0 := by simp [fields] at h; omega
  subst h2; decide

theorem witness_FactorInterpolatesTheTable :
    fields.pointsInUse.Pairwise (fun x y => x.1 < y.1) ∧ fields.pointsInUse.Pairwise (fun x y => x.2 ≤ y.2) ∧
      fields.pointsInUse.head? = some (4000000, 70779) ∧ fields.pointsInUse.getLast? = some (6000000, 73400) ∧
      (fields.pointsInUse[0]? = some (4000000, 70779) ∧ fields.pointsInUse[1]? = some (6000000, 73400) ∧
        5999999 < 6000000) := by decide

theorem witness_PulseEdgesAreCounted :
    (let s : State := { State.reset with pulse := { State.reset.pulse with preStart := 4294967294 } };
      s.peers.mode = .config ∧ s.pulse.levelA = false ∧ s.pulse.levelB = false ∧ s.pulse.preStart < 4294967295) ∧
      (let s : State := { State.reset with pulse := { State.reset.pulse with preStart := 4294967295 } };
        s.peers.mode = .config ∧ s.pulse.levelA = false ∧ s.pulse.preStart = 4294967295) ∧
      (let s : State := { node .parked with pulse := { (node .parked).pulse with a := 8190, b := 8190 } };
        s.peers.mode ≠ .config ∧ s.pulse.levelA = false ∧ s.pulse.levelB = false ∧ s.cfg.dualPulse = 1 ∧
          s.pulse.a < 8191 ∧ s.pulse.b < 8191) ∧
      (let s : State := { node .parked with pulse := { (node .parked).pulse with a := 8191, b := 8191 } };
        s.peers.mode ≠ .config ∧ s.pulse.levelA = false ∧ s.pulse.levelB = false ∧ s.cfg.dualPulse = 1 ∧
          s.pulse.a = 8191 ∧ s.pulse.b = 8191) ∧
      (let s : State := { node .shared with cfg := { fields with dualPulse := 0 } };
        s.pulse.levelB = false ∧ s.cfg.dualPulse = 0) ∧
      (let s : State := { State.reset with pulse := PulseCounter.reset true true };
        s.pulse.levelA = true ∧ s.pulse.levelB = true) := by decide +kernel

theorem witness_CycleEnds :
    running.pulse.cycleStart = some 4000 ∧ 1000 ≤ (running.clock - 4000).toNat ∧ running.conv.q < 65536 ∧
      (false = true ↔ running.cfg.dualPulse = 1 ∧
        running.cfg.mismatchLimit < max running.pulse.a running.pulse.b - min running.pulse.a running.pulse.b) := by
  decide

/-- The sampled age at the hold cycles, one beyond them, and no sample. -/
theorem witness_CycleEndGivesValuesAndPolls :
    (let x : Transmitter := { Transmitter.reset with sampled := true, lastGood := some 4000000, age := 3 };
      x.sampled = true ∧ x.age ≤ fields.holdCycles ∧ fields.holdCycles < x.age + 1) ∧
      Transmitter.reset.sampled = false ∧ running.sensor.pressure.phase = .idle ∧
      running.sensor.temperature.phase = .idle := by decide

/-- PARKED, SOLO without capacity and SHARED without capacity; and a share, unthrottled and throttled, at the ceiling. -/
theorem witness_CycleEndChargesTheRun :
    (node .parked).peers.mode = .parked ∧
      (let s : State := { node (.solo .alone) with pump := PumpSequencer.reset false };
        s.peers.mode.isSolo = true ∧ s.advertised = 0) ∧
      (let s : State := { node .shared with pump := PumpSequencer.reset false };
        s.peers.mode = .shared ∧ s.denominator = 0) ∧
      (running.peers.mode = .shared ∧ 0 < running.denominator ∧ running.filter.throttled = false ∧
        running.dose.debt + 1440000 ≤ running.cfg.ceiling * running.cfg.strokeMass ∧
        running.cfg.ceiling * running.cfg.strokeMass < running.dose.debt + 1440001) := by decide

/-- A node with the pressure transaction in a phase since the clock read 4,950. -/
def polling (p : TxnPhase) : State :=
  { running with sensor := { SensorBus.reset with
      pressure := { Transmitter.reset with phase := p, checkStart := 4950 } } }

theorem witness_BusChecksAndStretches :
    (let s := polling .startCheck;
      s.sensor.active = some .pressure ∧ (s.sensor.of .pressure).phase = .startCheck ∧
        (s.clock - (s.sensor.of .pressure).checkStart).toNat = 50) ∧
      ((polling .addressWrite).sensor.active = some .pressure ∧
        ((polling .addressWrite).sensor.of .pressure).phase.reaches (phaseOf .addressWrite) = true) ∧
      ((polling .addressWrite).sensor.of .pressure).phase.reaches (phaseOf .stop) = true ∧
      ((polling .data).sensor.active = some .pressure ∧ ((polling .data).sensor.of .pressure).phase = .data) ∧
      ((polling .stop).sensor.active = some .pressure ∧
        ((polling .stop).sensor.of .pressure).phase.inTransfer = true) := by decide

theorem witness_TransactionsEnd :
    ((polling .addressWrite).sensor.active = some .pressure ∧
      ((polling .addressWrite).sensor.of .pressure).phase.reaches (nackPhase .addressRead) = true) ∧
      ((polling .recovery).sensor.active = some .pressure ∧
        ((polling .recovery).sensor.of .pressure).phase = .recovery) ∧
      ((polling .data).sensor.active = some .pressure ∧ ((polling .data).sensor.of .pressure).phase.inTransfer = true ∧
        (0 : Byte).getLsbD 0 = false ∧ (1 : Byte).getLsbD 0 = true ∧
        3500000 = (polling .data).cfg.clampLow .pressure ∧ 7000000 = (polling .data).cfg.clampHigh .pressure) := by
  decide

/-- A node whose transmitter stands in a state with the frame of node 1 pending. -/
def sending (x : TxState) (attempt : Nat) (owed : Owed) : State :=
  { running with tally := { running.tally with
      transmitter := x, attempt := attempt, owed := owed,
      pending := some { frame := .tally { tally3 with node := 1 }, builtShared := true } } }

theorem witness_LineEventsMoveTheTransmitter :
    (let s : State := { running with tally := { running.tally with receiver := .syncing } };
      s.tally.receiver = .syncing) ∧
      (sending .defer 0 .none).tally.transmitter = .defer ∧
      (let s : State := { sending .holdoff 3 .none with
          tally := { (sending .holdoff 3 .none).tally with lineIdle := true } };
        s.tally.transmitter = .holdoff ∧ s.tally.lineIdle = true) ∧
      running.tally.transmitter ≠ .defer ∧ running.tally.transmitter ≠ .holdoff := by decide

theorem witness_TallyTimerBuildsTheFrame :
    running.tally.timerStart = some 4500 ∧ running.cfg.tallyInterval ≤ (running.clock - 4500).toNat ∧
      running.peers.mode.isActive = true ∧ running.tally.transmitter = .empty ∧
      (node .parked).peers.mode.isActive = false ∧ (sending .sending 0 .none).tally.transmitter = .sending ∧
      (sending .defer 0 .none).tally.transmitter = .defer ∧ silenced.tally.transmitter = .silent := by decide

theorem witness_CollisionsRetryOrAbandon :
    ((sending .sending 2 .none).tally.attempt < 3 ∧ (sending .sending 2 .none).tally.owed = .none) ∧
      3 ≤ (sending .sending 3 .none).tally.attempt ∧ (sending .sending 0 .leave).tally.owed ≠ .none ∧
      (sending .sending 2 .none).tally.transmitter = .sending := by decide

theorem witness_FrameSentCountsAndReports :
    ((sending .sending 0 .none).tally.transmitter = .sending ∧
      (sending .sending 0 .none).tally.pending = some { frame := .tally { tally3 with node := 1 }, builtShared := true } ∧
      tally3.shared = true ∧ (sending .sending 0 .none).peers.mode = .shared) ∧
      (let p : Pending := { frame := .tally { tally3 with node := 1 }, builtShared := false };
        let s : State := { withPeer (.solo .unheard) with
          tally := { TallyLine.reset with transmitter := .sending, pending := some p, owed := .tally } };
        s.tally.transmitter = .sending ∧ s.tally.pending = some p ∧ s.tally.owed = .tally ∧
          s.peers.mode.maySwitch = true ∧ p.builtShared = false ∧ 0 < s.peers.liveCount) ∧
      (let p : Pending := { frame := .tally { tally3 with node := 1 }, builtShared := false };
        let s : State := { node (.solo .starting) with
          tally := { TallyLine.reset with transmitter := .sending, pending := some p, owed := .leave } };
        s.tally.transmitter = .sending ∧ s.tally.pending = some p ∧ s.tally.owed = .leave ∧
          s.peers.mode.maySwitch = true ∧ s.peers.liveCount = 0) := by decide

theorem witness_BadFramesAreOnlyCounted :
    running.tally.receiver = .on ∧ State.reset.tally.receiver ≠ .on ∧ [1, 2].length < 3 ∧
      crc16 ([1, 2, 3].take 1) ≠ BitVec.ofNat 16 (fieldAt [1, 2, 3] 1 2) ∧
      running.isOwnFrame [1, 2, 3] = false ∧
      (let f : Frame := .tally { tally3 with node := 1 };
        let s : State := { running with tally := { running.tally with ownOnLine := some f } };
        s.tally.receiver = .on ∧ s.tally.ownOnLine = some f ∧ s.tally.lineIdle = false ∧
          f.bytes <+: f.bytes ++ [0]) := by decide +kernel

/-- Bytes with the CRC of their own behind them (R54). -/
def closed (p : List Byte) : List Byte := p ++ bigEndian 2 (crc16 p).toNat

/-- One frame for each bad cause of R53, at the boundaries of node number, interval code, mode and capacity. -/
theorem test_bad_causes :
    judge (closed [1, 2, 9, 0, 0, 0, 0]) true false = .bad .framing ∧ judge [1, 2] false false = .bad .length ∧
      judge (closed [1, 2, 9, 0, 0, 0, 0]) false true = .bad .length ∧ judge [1, 2, 3] false false = .bad .crc ∧
      judge (closed [1, 3, 9, 0, 0, 0, 0]) false false = .bad .kind ∧
      judge (closed [1, 2, 9, 0, 0, 0]) false false = .bad .length ∧
      judge (closed [1, 1, 9, 0, 0, 0, 0]) false false = .bad .length ∧
      judge (closed [0, 2, 9, 0, 0, 0, 0]) false false = .bad .node ∧
      judge (closed [17, 2, 9, 0, 0, 0, 0]) false false = .bad .node ∧
      judge (closed ([3, 1, 9, 0, 1, 15] ++ List.replicate 20 0)) false false = .bad .field ∧
      judge (closed ([3, 1, 9, 9, 1, 15] ++ List.replicate 20 0)) false false = .bad .field ∧
      judge (closed ([3, 1, 9, 8, 2, 15] ++ List.replicate 20 0)) false false = .bad .field ∧
      judge (closed ([3, 1, 9, 8, 1, 16] ++ List.replicate 20 0)) false false = .bad .field := by decide +kernel

theorem witness_AdmissionTakesBaselinesOnly :
    let s := node .shared
    s.tally.receiver = .on ∧ s.isOwnFrame (Frame.tally tally3).bytes = false ∧
      judge (Frame.tally tally3).bytes false false = .good (.tally tally3) ∧
      3 = tally3.node.toNat ∧ 3 ≠ s.nodeNumber ∧ s.peers.entries.length = 16 ∧ (s.peers.entry 3).isLive = false :=
  ⟨rfl, rfl, test_frame_read_back, by decide, by decide, by decide, by decide⟩

theorem witness_TalliesOfLivePeersReachTheFilter :
    let s := withPeer .parked
    s.tally.receiver = .on ∧ s.isOwnFrame (Frame.tally tally3).bytes = false ∧
      judge (Frame.tally tally3).bytes false false = .good (.tally tally3) ∧
      3 = tally3.node.toNat ∧ 3 ≠ s.nodeNumber ∧ s.peers.entries.length = 16 ∧
      (s.peers.entry 3).status = .live live3 ∧ tally3.sequence ≠ live3.sequence ∧ s.peers.mode ≠ .shared ∧
      (false = true ↔ 100000 < (tally3.litres - live3.litres).toNat ∨
        10000000 < (tally3.delivered - live3.delivered).toNat ∨ 40000000 < (tally3.released - live3.released).toNat) :=
  ⟨rfl, rfl, test_frame_read_back, by decide, by decide, by decide, by decide, by decide, by decide, by decide⟩

/-- A repeated sequence at the same node. -/
theorem witness_repeated_sequence :
    let f : TallyFrame := { tally3 with sequence := 8 }
    (withPeer .parked).isOwnFrame (Frame.tally f).bytes = false ∧
      judge (Frame.tally f).bytes false false = .good (.tally f) ∧ 3 = f.node.toNat ∧ f.sequence = live3.sequence ∧
      (false = true ↔ 100000 < (f.litres - live3.litres).toNat ∨ 10000000 < (f.delivered - live3.delivered).toNat ∨
        40000000 < (f.released - live3.released).toNat) := by decide +kernel

/-- The deltas at their limits are plausible, and one beyond is not. -/
theorem witness_implausible_boundaries :
    implausibleTally 100000 10000000 40000000 = false ∧ implausibleTally 100001 0 0 = true ∧
      implausibleTally 0 10000001 0 = true ∧ implausibleTally 0 0 40000001 = true := by decide

/-- What the statement of the SHARED peer asks of a frame of node 3, beside its checks: the deltas, with whether they are
plausible, at the node `running`, which holds no other capacity. -/
def meets (f : TallyFrame) (bad : Bool) (dL dD dR : Nat) : Prop :=
  f.node = 3 ∧ f.sequence ≠ live3.sequence ∧ dL = (f.litres - live3.litres).toNat ∧
    dD = (f.delivered - live3.delivered).toNat ∧ dR = (f.released - live3.released).toNat ∧
    (bad = true ↔ 100000 < dL ∨ 10000000 < dD ∨ 40000000 < dR) ∧
    running.tally.receiver = .on ∧ running.isOwnFrame (Frame.tally f).bytes = false ∧
    judge (Frame.tally f).bytes false false = .good (.tally f)

/-- A litre delta at its limit with a released delta at its limit; no delta at all; one beyond the limit; and the two changes to
SOLO with a released delta of 0 and with an implausible frame. -/
theorem witness_ReleasedOdorantIsAdopted :
    ((3 : Nat) ≠ running.nodeNumber ∧ running.peers.entries.length = 16 ∧
      (running.peers.entry 3).status = .live live3 ∧ running.peers.mode = .shared ∧ live3.shared = true ∧
      0 = (running.peers.setEntry 3 Entry.absent).sharedCapacity) ∧
      meets { tally3 with litres := 101000, released := 40000020 } false 100000 0 40000000 ∧
      meets { tally3 with released := 20 } false 0 0 0 ∧
      meets { tally3 with litres := 101001 } true 100001 0 50 ∧
      meets { tally3 with shared := false, released := 20 } false 0 0 0 ∧
      meets { tally3 with shared := false, litres := 101001 } true 100001 0 50 := by
  refine ⟨by decide, ?_, ?_, ?_, ?_, ?_⟩ <;> (unfold meets; decide +kernel)

/-- The LEAVE of node 3. -/
def leave3 : LeaveFrame := { node := 3, sequence := 9, released := 40000021 }

theorem test_leave_read_back : judge (Frame.leave leave3).bytes false false = .good (.leave leave3) := by decide +kernel

theorem witness_LeaveFramesMakeTheEntryLeft :
    running.tally.receiver = .on ∧ running.isOwnFrame (Frame.leave leave3).bytes = false ∧
      judge (Frame.leave leave3).bytes false false = .good (.leave leave3) ∧
      3 = leave3.node.toNat ∧ 3 ≠ running.nodeNumber ∧ running.peers.entries.length = 16 ∧
      (running.peers.entry 3).status = .live live3 ∧ leave3.sequence ≠ live3.sequence ∧
      ((node .shared).peers.entry 3).isLive = false ∧ 40000000 < (leave3.released - live3.released).toNat ∧
      ((List.range' 1 16).filter fun m => (running.peers.entry m).isLive) = [3] ∧
      ((running.peers.setEntry 16 (running.peers.entry 3)).entry 16).isLive = true ∧
      (0 < (40000020 - live3.released).toNat ∧ (40000020 - live3.released).toNat = 40000000 ∧ live3.shared = true) ∧
      0 = (running.peers.setEntry 3 Entry.absent).sharedCapacity :=
  ⟨rfl, rfl, test_leave_read_back, by decide, by decide, by decide, by decide, by decide, by decide, by decide, by decide, by decide, by decide, by decide⟩

/-- A TALLY that bears the number of the node itself. -/
theorem test_own_read_back : judge (Frame.leave { leave3 with node := 1 }).bytes false false =
    .good (.leave { leave3 with node := 1 }) := by decide +kernel

theorem witness_OwnNumberHeardSilencesTheNode :
    running.tally.receiver = .on ∧
      running.isOwnFrame (Frame.leave { leave3 with node := 1 }).bytes = false ∧
      (Frame.leave { leave3 with node := 1 }).node.toNat = running.nodeNumber ∧
      running.tally.transmitter ≠ .silent ∧ silenced.tally.transmitter = .silent := by decide

theorem witness_PeersExpire :
    running.peers.entries.length = 16 ∧ (running.peers.entry 3).status = .live live3 ∧
      4 * live3.interval = (running.clock - (running.peers.entry 3).lastHeard).toNat ∧
      0 = (running.peers.setEntry 3 Entry.absent).sharedCapacity ∧
      ((List.range' 1 16).filter fun m => (running.peers.entry m).isLive) = [3] ∧
      (let s : State := { running with dose := { running.dose with debt := 1440000 } };
        s.cfg.ceiling * s.cfg.strokeMass < s.dose.debt + 90000) ∧
      ((withPeer .shared).peers.setEntry 16 (running.peers.entry 3)).liveCount = 2 := by decide

theorem witness_UnheardNodesGoSoloAndSurrender :
    running.peers.mode = .shared ∧ 0 < running.peers.liveSharedCount ∧ running.peers.lastListed = some 1000 ∧
      8 * running.cfg.tallyInterval = (running.clock - 1000).toNat := by decide

theorem witness_StrokesStartAndMoveThroughTheirPhases :
    owing.mayStart = true ∧ running.mayStart = false ∧ owing.pump.stroke = none ∧
      ((stroking .fill).pump.stroke = some (stroke .fill) ∧
        (stroking .fill).cfg.fillTime ≤ ((stroking .fill).clock - (stroke .fill).phaseStart).toNat) ∧
      ((stroking .drive).pump.stroke = some (stroke .drive) ∧
        (stroking .drive).cfg.driveTime ≤ ((stroking .drive).clock - (stroke .drive).phaseStart).toNat) ∧
      ((stroking .recover).pump.stroke = some (stroke .recover) ∧
        (stroking .recover).cfg.recoverTime ≤ ((stroking .recover).clock - (stroke .recover).phaseStart).toNat) ∧
      ({ stroking .fill with clock := 13000 }.pump.history = 3000 :: [] ∧
        fields.windowLength = (13000#64 - 3000#64).toNat) := by decide

theorem witness_StrayPulsesAreOnlyCounted :
    (State.reset.peers.mode = .config ∧ State.reset.pump.level = false) ∧
      (PumpSequencer.reset true).level = true ∧
      ((node .parked).peers.mode ≠ .config ∧ (node .parked).pump.level = false ∧ (node .parked).pump.stroke = none) ∧
      ((stroking .fill).peers.mode ≠ .config ∧ (stroking .fill).pump.stroke = some (stroke .fill) ∧
        (stroke .fill).phase = .fill) ∧
      ((stroking .recover).peers.mode ≠ .config ∧ (stroking .recover).pump.stroke = some (stroke .recover) ∧
        (stroke .recover).phase = .recover) ∧
      (let k : Stroke := { stroke .drive with confirmed := true };
        let s : State := { node .shared with pump := { (node .shared).pump with stroke := some k } };
        s.peers.mode ≠ .config ∧ s.pump.stroke = some k ∧ k.confirmed = true) ∧
      (let s : State := { stroking .drive with cfg := { fields with confirmWindow := 0 } };
        s.peers.mode ≠ .config ∧ s.cfg.confirmWindow = 0) ∧
      (let s : State := { node .shared with pump := { (node .shared).pump with condition := .none } };
        s.peers.mode ≠ .config ∧ s.pump.condition = .none ∧ s.pump.stroke = none) := by decide

theorem witness_StrokesConfirm :
    (stroking .drive).peers.mode ≠ .config ∧ (stroking .drive).pump.level = false ∧
      (stroking .confirm).pump.level = false ∧ (stroking .drive).pump.stroke = some (stroke .drive) ∧
      (stroke .drive).confirmed = false ∧ 0 < (stroking .drive).cfg.confirmWindow ∧
      (stroking .confirm).pump.stroke = some (stroke .confirm) ∧
      (let s : State := { stroking .drive with cfg := { fields with confirmWindow := 0 } };
        s.cfg.confirmWindow = 0 ∧ s.cfg.driveTime ≤ (s.clock - (stroke .drive).phaseStart).toNat) := by decide

theorem witness_MissedStrokesFaultThePump :
    (stroking .confirm).pump.stroke = some (stroke .confirm) ∧
      (stroking .confirm).cfg.confirmWindow ≤ ((stroking .confirm).clock - (stroke .confirm).phaseStart).toNat ∧
      (false = true ↔ (stroking .confirm).pump.condition = .priming ∨
        ((stroking .confirm).pump.condition = .available ∧
          (stroking .confirm).cfg.missLimit ≤ (stroking .confirm).pump.missCount + 1)) ∧
      (stroking .confirm).cfg.missLimit = 2 + 1 := by decide

theorem witness_PumpCommandsMoveTheCondition :
    (running.peers.mode ≠ .config ∧ running.pump.condition = .available) ∧
      (let s : State := { running with pump := { running.pump with condition := .held } };
        s.peers.mode ≠ .config ∧ s.pump.condition = .held) ∧
      (let s : State := { running with pump := { running.pump with condition := .fault } };
        s.peers.mode ≠ .config ∧ s.pump.condition = .fault) := by decide

/-- A node whose filter period ends now with a volume. -/
def filtering (v : BitVec 64) : State :=
  { running with clock := 30000, filter := { running.filter with periodStart := some 0, volume := v } }

theorem witness_PeriodsAreCarriedOrSampled :
    (filtering 9999999999).filter.periodStart = some 0 ∧
      (filtering 9999999999).cfg.filterPeriod * 1000 = ((filtering 9999999999).clock - 0).toNat ∧
      (filtering 9999999999).filter.volume.toNat < (filtering 9999999999).cfg.vmin * 1000000 ∧
      (filtering 10000000000).cfg.vmin * 1000000 ≤ (filtering 10000000000).filter.volume.toNat ∧
      (let s : State := { running with clock := 60000, filter := { running.filter with dwell := .running 0 } };
        s.filter.dwell = .running 0 ∧ s.cfg.lowDwell * 60000 = (s.clock - 0).toNat) := by decide

theorem witness_IntervalsCloseIntoTheRing :
    running.store.current = some interval ∧ running.peers.mode ≠ .config ∧
      (let s : State := { running with clock := 904000 };
        s.store.timerStart = some 4000 ∧ s.cfg.intervalLength * 60000 = (s.clock - 4000).toNat) ∧
      running.peers.entries.length = 16 := by decide

/-- An adoption above the ceiling moves the adopted and released figures and sets the flag; a HOLD in SOLO releases. -/
theorem witness_intervals_figures_move :
    (let s : State := { running with dose := { running.dose with debt := 1440000 } };
      s.store.current = some interval ∧ s.peers.entries.length = 16 ∧
        (after! (.peerExpiry 3) s).dose.adopted ≠ s.dose.adopted ∧
        (after! (.peerExpiry 3) s).dose.released ≠ s.dose.released ∧
        (after! (.peerExpiry 3) s).peers.liveCount ≠ s.peers.liveCount) ∧
      (after! .leave running).peers.mode = .parked := by decide +kernel

/-- Both ends of the ring, the sequences just beyond them, and the cursor at each. -/
theorem witness_SelectorsLatchTheirSnapshots :
    RingConsecutive ringed.store ∧ ringed.store.ring ≠ [] ∧
      ((1 ≤ (16 : Byte).toNat ∧ (16 : Byte).toNat ≤ 16) ∧ (150 : BitVec 16).toNat < 151) ∧
      ((ringed.store.nextSequence - 1 - 0).toNat = 0 ∧ (ringed.store.nextSequence - 1 - 4294967295).toNat = 1 ∧
        ringed.store.ring.length = 2) ∧
      2147483648 ≤ (ringed.store.nextSequence - 1 - 1).toNat ∧
      (ringed.store.ring.length ≤ (ringed.store.nextSequence - 1 - 4294967294).toNat ∧
        (ringed.store.nextSequence - 1 - 4294967294).toNat < 2147483648) ∧
      (State.reset.store.ring = [] ∧
        2147483648 ≤ (State.reset.store.nextSequence - 1 - State.reset.store.cursor).toNat) :=
  ⟨ringed_isConsecutive, by decide⟩

theorem witness_ringed_cursors :
    (let s : State := { ringed with store := { ringed.store with cursor := 4294967295 } };
      (s.store.nextSequence - 1 - s.store.cursor).toNat < s.store.ring.length) ∧
      (let s : State := { ringed with store := { ringed.store with cursor := 4294967290 } };
        s.store.ring.length ≤ (s.store.nextSequence - 1 - s.store.cursor).toNat ∧
          (s.store.nextSequence - 1 - s.store.cursor).toNat < 2147483648) := by decide

theorem witness_WritesAndProtocolErrors :
    ((150 : BitVec 16).toNat < 151 ∧ [(1 : Byte), 2] ≠ [] ∧ running.port.blockState = .locked) ∧
      (State.reset.port.blockState ≠ .locked ∧ State.reset.port.block.length = 151 ∧
        151 < (150 : BitVec 16).toNat + [(1 : Byte), 2].length) ∧
      ((0 : Byte).toNat = 0 ∧ 16 < (17 : Byte).toNat ∧ 151 ≤ (151 : BitVec 16).toNat) := by
  decide +kernel

theorem witness_LeaveParksAndJoinReturns :
    running.peers.mode.isActive = true ∧ (node .parked).peers.mode = .parked ∧
      (sending .sending 0 .tally).tally.transmitter = .sending ∧ running.tally.transmitter ≠ .sending := by decide

theorem witness_LatchesAreClearedAndRefusalsChangeNothing :
    State.reset.peers.mode = .config ∧ State.reset.pump.condition = .unset ∧ running.pump.condition ≠ .held ∧
      running.pump.condition ≠ .fault ∧ running.peers.mode ≠ .parked ∧ (node .parked).peers.mode.isActive = false ∧
      ((0 : Byte) = 0 ∧ 8 < (9 : Byte).toNat) := by decide

end Sys2Proof.Machine.Tests
end

section
/-! The marks of a cycle: what each shared operation does to the flags of the open interval (R163) and to the latches
(R190), from the flags up to the whole cycle end; then what a cycle end leaves of the closing of the counts (R7 to R11). -/

namespace Sys2Proof.Machine

/-! ## The flags of the open interval -/

/-- A flag as the open interval holds it; none while no interval is open (R160, R163). -/
def IntervalStore.openFlag (b : IntervalStore) (f : Flag) : Option Bool := b.current.map fun i => i.hasFlag f

theorem openFlag_of_current {b : IntervalStore} {i : CurrentInterval} (h : b.current = some i) (f : Flag) :
    b.openFlag f = some (i.hasFlag f) := by simp [IntervalStore.openFlag, h]

@[simp] theorem Flag.bit_getLsbD (f g : Flag) : f.bit.getLsbD g.index = decide (g = f) := by
  cases f <;> cases g <;> rfl

theorem onInterval_openFlag (u : CurrentInterval → CurrentInterval) (f : Flag) (s : State)
    (h : ∀ i, (u i).flags = i.flags) : (onInterval u s).store.openFlag f = s.store.openFlag f := by
  simp [onInterval, IntervalStore.openFlag, CurrentInterval.hasFlag, Function.comp_def, h]

theorem setFlag_openFlag (f g : Flag) (s : State) :
    (setFlag f s).store.openFlag g = (s.store.openFlag g).map (· || decide (g = f)) := by
  simp only [setFlag, onInterval, IntervalStore.openFlag, CurrentInterval.hasFlag, State.withStore_store,
    Option.map_map, Function.comp_def, BitVec.getLsbD_or, Flag.bit_getLsbD]

theorem setFlagIf_openFlag (v : Bool) (f g : Flag) (s : State) :
    (setFlagIf v f s).store.openFlag g = (s.store.openFlag g).map (· || (decide (g = f) && v)) := by
  cases v <;> simp [setFlagIf, setFlag_openFlag]

theorem raiseIf_openFlag (v : Bool) (c : Cond) (f g : Flag) (s : State) :
    (raiseIf v c f s).store.openFlag g = (s.store.openFlag g).map (· || (decide (g = f) && v)) := by
  cases v <;> simp [raiseIf, raise, setFlag_openFlag]

theorem setLevelFlag_openFlag (c : Cond) (f g : Flag) (v : Bool) (s : State) :
    (setLevelFlag c f v s).store.openFlag g = (s.store.openFlag g).map (· || (decide (g = f) && (v && !s.isTrue c))) := by
  simp [setLevelFlag, setFlagIf_openFlag]

/-! ## Debt: only the pump's flags, DEBT RELEASED and UNDOSED move -/

theorem reportPump_openFlag (f : Flag) (s : State) (h1 : f ≠ .pumpFault) (h2 : f ≠ .pumpStrained) :
    (reportPump s).store.openFlag f = s.store.openFlag f := by
  simp [reportPump, setLevelFlag_openFlag, h1, h2]

theorem setDebt_openFlag (x : Nat) (f : Flag) (s : State) (h1 : f ≠ .pumpFault) (h2 : f ≠ .pumpStrained) :
    (setDebt x s).store.openFlag f = s.store.openFlag f := by
  unfold setDebt; split
  · rfl
  · simp [reportPump_openFlag, h1, h2]

theorem addReleased_openFlag (x : Nat) (f : Flag) (s : State) :
    (addReleased x s).store.openFlag f = s.store.openFlag f := by
  simp [addReleased, onInterval_openFlag]

theorem takeIntoDebt_openFlag (x : Nat) (f : Flag) (s : State) (h1 : f ≠ .pumpFault) (h2 : f ≠ .pumpStrained)
    (h3 : f ≠ .debtReleased) : (takeIntoDebt x s).store.openFlag f = s.store.openFlag f := by
  unfold takeIntoDebt; split
  · exact setDebt_openFlag _ f s h1 h2
  · simp [setDebt_openFlag, addReleased_openFlag, raise, setFlag_openFlag, h1, h2, h3]

theorem takeIntoDebt_isLatched (x : Nat) (c : Cond) (s : State) (h1 : c ≠ .pumpFault) (h2 : c ≠ .pumpStrained)
    (h3 : c ≠ .debtReleased) : (takeIntoDebt x s).isLatched c = s.isLatched c := by
  unfold takeIntoDebt; split
  · exact setDebt_isLatched _ c s h1 h2
  · simp [setDebt_isLatched, raise_isLatched, h1, h2, h3]

theorem charge_openFlag (w : Nat) (f : Flag) (s : State) (h1 : f ≠ .pumpFault) (h2 : f ≠ .pumpStrained)
    (h3 : f ≠ .debtReleased) : (charge w s).store.openFlag f = s.store.openFlag f := by
  unfold charge landCharge; split
  · simp [onInterval_openFlag]
  · simp [takeIntoDebt_openFlag, onInterval_openFlag, h1, h2, h3]

theorem charge_isLatched (w : Nat) (c : Cond) (s : State) (h1 : c ≠ .pumpFault) (h2 : c ≠ .pumpStrained)
    (h3 : c ≠ .debtReleased) : (charge w s).isLatched c = s.isLatched c := by
  unfold charge landCharge; split
  · simp
  · simp [takeIntoDebt_isLatched, h1, h2, h3]

theorem addUndosed_openFlag (vb : Nat) (f : Flag) (s : State) :
    (addUndosed vb s).store.openFlag f =
      (s.store.openFlag f).map (· || (decide (f = .undosed) && decide (0 < vb))) := by
  simp [addUndosed, raiseIf_openFlag, onInterval_openFlag]

theorem addUndosed_isLatched (vb : Nat) (c : Cond) (s : State) :
    (addUndosed vb s).isLatched c = (s.isLatched c || (decide (c = .undosed) && decide (0 < vb))) := by
  simp [addUndosed, raiseIf_isLatched]

theorem ownCycleEvent_openFlag (n : BitVec 32) (vb : Nat) (f : Flag) (s : State) (h1 : f ≠ .pumpFault)
    (h2 : f ≠ .pumpStrained) (h3 : f ≠ .debtReleased) (h4 : f ≠ .undosed) :
    (ownCycleEvent n vb s).store.openFlag f = s.store.openFlag f := by
  unfold ownCycleEvent; split
  · simp [addUndosed_openFlag, h4]
  · simp [charge_openFlag, h1, h2, h3]

theorem ownCycleEvent_isLatched (n : BitVec 32) (vb : Nat) (c : Cond) (s : State) (h1 : c ≠ .pumpFault)
    (h2 : c ≠ .pumpStrained) (h3 : c ≠ .debtReleased) (h4 : c ≠ .undosed) :
    (ownCycleEvent n vb s).isLatched c = s.isLatched c := by
  unfold ownCycleEvent; split
  · simp [addUndosed_isLatched, h4]
  · simp [charge_isLatched, h1, h2, h3]

/-! ## Conversion and values given -/

theorem addHeader_openFlag (x : Nat) (f : Flag) (s : State) :
    (addHeader x s).store.openFlag f = s.store.openFlag f := by
  simp [addHeader, IntervalStore.openFlag]

theorem countCycle_openFlag (pf tf : Nat) (f : Flag) (s : State) :
    (countCycle pf tf s).store.openFlag f = s.store.openFlag f := onInterval_openFlag _ f s fun _ => rfl

theorem convert_openFlag (r : CycleRecord) (p t : Given) (f : Flag) (s : State) (h1 : f ≠ .pumpFault)
    (h2 : f ≠ .pumpStrained) (h3 : f ≠ .debtReleased) (h4 : f ≠ .undosed) :
    (convert r p t s).store.openFlag f = s.store.openFlag f := by
  simp [convert, ownCycleEvent_openFlag, addHeader_openFlag, countCycle_openFlag, h1, h2, h3, h4]

theorem convert_isLatched (r : CycleRecord) (p t : Given) (c : Cond) (s : State) (h1 : c ≠ .pumpFault)
    (h2 : c ≠ .pumpStrained) (h3 : c ≠ .debtReleased) (h4 : c ≠ .undosed) :
    (convert r p t s).isLatched c = s.isLatched c := by
  simp [convert, ownCycleEvent_isLatched, h1, h2, h3, h4]

theorem reportGiven_openFlag (q : Quantity) (g : Given) (clamped : Bool) (f : Flag) (s : State) :
    (reportGiven q g clamped s).store.openFlag f = (s.store.openFlag f).map fun b =>
      b || (decide (f = heldFlag q) && g.kind == .held) ||
        (decide (f = clampedFlag q) && (g.kind != .substituted && clamped)) ||
        (decide (f = substitutedFlag q) && g.kind == .substituted) := by
  simp [reportGiven, setFlagIf_openFlag, Function.comp_def]

theorem reportGiven_isLatched (q : Quantity) (g : Given) (clamped : Bool) (c : Cond) (s : State) (h : c ≠ substCond q) :
    (reportGiven q g clamped s).isLatched c = s.isLatched c := by
  simp [reportGiven, setLevel_isLatched, h]

theorem giveValues_openFlag (f : Flag) (s : State)
    (h : ∀ q, f ≠ heldFlag q ∧ f ≠ clampedFlag q ∧ f ≠ substitutedFlag q) :
    (giveValues s).store.openFlag f = s.store.openFlag f := by
  simp [giveValues, reportGiven_openFlag, h]

theorem giveValues_isLatched (c : Cond) (s : State) (h : ∀ q, c ≠ substCond q) :
    (giveValues s).isLatched c = s.isLatched c := by
  simp [giveValues, reportGiven_isLatched, h]

/-! ## The closing of the counts -/

theorem cycleMismatch_iff (s : State) :
    s.cycleMismatch = true ↔
      s.cfg.dualPulse = 1 ∧ s.cfg.mismatchLimit < max s.pulse.a s.pulse.b - min s.pulse.a s.pulse.b := by
  rw [State.cycleMismatch, Bool.and_eq_true, beq_iff_eq, decide_eq_true_eq, difference]

/-- R8 names the channel with the larger count, the model asks for B: at a mismatch both give the larger count, and the
source is B exactly where B holds it. -/
theorem cycleRecord_eq (s : State) :
    s.cycleRecord =
      { number := s.pulse.nextNumber, a := s.pulse.a, b := s.pulse.b,
        n := if s.cycleMismatch then max s.pulse.a s.pulse.b else s.pulse.a,
        sourceB := s.cycleMismatch && decide (s.pulse.a < s.pulse.b), satA := s.pulse.satA, satB := s.pulse.satB,
        mismatch := s.cycleMismatch } := by
  cases hm : s.cycleMismatch
  · simp [State.cycleRecord, hm]
  · by_cases hb : s.pulse.a < s.pulse.b
    · simp [State.cycleRecord, hm, hb, Nat.max_eq_right hb.le]
    · simp [State.cycleRecord, hm, hb, Nat.max_eq_left (Nat.not_lt.mp hb)]

theorem closeCycle_pulse (s : State) :
    (closeCycle s).pulse =
      { s.pulse with
        cycleStart := reschedule s.pulse.cycleStart 1000, a := 0, b := 0, satA := false, satB := false,
        nextNumber := s.pulse.nextNumber + 1, last := s.cycleRecord } := by
  simp [closeCycle, State.cycleRecord]

theorem closeCycle_isLatched (c : Cond) (s : State) :
    (closeCycle s).isLatched c =
      (s.isLatched c || (decide (c = .pulseOverrange) && (s.pulse.satA || s.pulse.satB)) ||
        (decide (c = .pulseMismatch) && s.cycleMismatch)) := by
  simp [closeCycle, raiseIf_isLatched, State.cycleRecord]

theorem closeCycle_openFlag (f : Flag) (s : State) :
    (closeCycle s).store.openFlag f =
      (s.store.openFlag f).map fun b =>
        b || (decide (f = .pulseOverrange) && (s.pulse.satA || s.pulse.satB)) ||
          (decide (f = .pulseMismatch) && s.cycleMismatch) := by
  simp [closeCycle, raiseIf_openFlag, State.cycleRecord, Function.comp_def]

/-! ## The whole cycle end -/

theorem cycleEnd_pulse (s : State) : (cycleEnd s).pulse = (closeCycle s).pulse := by simp [cycleEnd]

/-- The values given and the charge of the run raise conditions of their own only, so the two of R11 are latched as the closing
of the counts leaves them. -/
theorem cycleEnd_isLatched_pulse (c : Cond) (s : State) (h : c = .pulseMismatch ∨ c = .pulseOverrange) :
    (cycleEnd s).isLatched c = (closeCycle s).isLatched c := by
  have values : ∀ q, c ≠ substCond q := by
    rcases h with rfl | rfl <;> rintro (_ | _) <;> decide
  rcases h with rfl | rfl <;> simp [cycleEnd, convert_isLatched, giveValues_isLatched, values]

/-- The same for the two flags of the open interval. -/
theorem cycleEnd_openFlag_pulse (f : Flag) (s : State) (h : f = .pulseMismatch ∨ f = .pulseOverrange) :
    (cycleEnd s).store.openFlag f = (closeCycle s).store.openFlag f := by
  have values : ∀ q, f ≠ heldFlag q ∧ f ≠ clampedFlag q ∧ f ≠ substitutedFlag q := by
    rcases h with rfl | rfl <;> rintro (_ | _) <;> decide
  rcases h with rfl | rfl <;> simp [cycleEnd, convert_openFlag, giveValues_openFlag, values]

/-- An interval that is open at a cycle end stays open, with its two pulse flags set where the cycle's record says (R11). -/
theorem cycleEnd_current (s : State) (i : CurrentInterval) (hi : s.store.current = some i) :
    ∃ j, (cycleEnd s).store.current = some j ∧
      j.hasFlag .pulseMismatch = (i.hasFlag .pulseMismatch || s.cycleMismatch) ∧
      j.hasFlag .pulseOverrange = (i.hasFlag .pulseOverrange || s.pulse.satA || s.pulse.satB) := by
  have hopen : (cycleEnd s).store.current.isSome = true := by simp [hi]
  obtain ⟨j, hj⟩ := Option.isSome_iff_exists.mp hopen
  have closed (f : Flag) (h : f = .pulseMismatch ∨ f = .pulseOverrange) := cycleEnd_openFlag_pulse f s h
  simp only [openFlag_of_current hj, closeCycle_openFlag, openFlag_of_current hi, Option.map_some,
    Option.some.injEq] at closed
  refine ⟨j, hj, ?_, ?_⟩
  · simpa using closed .pulseMismatch (.inl rfl)
  · simpa [Bool.or_assoc] using closed .pulseOverrange (.inr rfl)

/-- CYCLE_TIMER_EXPIRY at a cycle timer that has run its second (R2, R7). -/
theorem exec_cycleTimerExpiry_due (s : State) (t0 : Time) (h0 : s.pulse.cycleStart = some t0)
    (hdue : 1000 ≤ (s.clock - t0).toNat) :
    exec .cycleTimerExpiry s = .next (startIfChanged s (cycleEnd s)) := by
  have hcycle : s.cycleDue = true := by rw [State.cycleDue, h0]; exact decide_eq_true hdue
  exact if_pos hcycle

/-- Settles O32. The counts close first, and nothing that follows in the cycle end touches the Pulse Counter, the two pulse
conditions or their flags. -/
theorem cycleEndClosesTheCounts : Obligations.CycleEndClosesTheCounts := by
  intro s t0 m h0 hdue hm
  have hmis : s.cycleMismatch = m := Bool.eq_iff_iff.mpr ((cycleMismatch_iff s).trans hm.symm)
  refine ⟨startIfChanged s (cycleEnd s), exec_cycleTimerExpiry_due s t0 h0 hdue, ?pulse, ?mismatch, ?overrange,
    ?flags, ?frame⟩
  case pulse =>
    simp [cycleEnd_pulse, closeCycle_pulse, cycleRecord_eq, hmis, h0, reschedule, after]
  case mismatch => simp [cycleEnd_isLatched_pulse, closeCycle_isLatched, hmis]
  case overrange => simp [cycleEnd_isLatched_pulse, closeCycle_isLatched, Bool.or_assoc]
  case flags =>
    intro i hi
    simpa [hmis] using cycleEnd_current s i hi
  case frame => simp

end Sys2Proof.Machine
end

section
/-! What a cycle end does in the Sensor Bus Master: the values given with their conditions and flags (R27 to R30), the ages
(R28), and the next poll (R16, R17). -/

namespace Sys2Proof.Machine

/-! ## The value given for a quantity -/

theorem given_of_age_le {s : State} {q : Quantity} {v : Nat} (sampled : (s.sensor.of q).sampled = true)
    (good : (s.sensor.of q).lastGood = some v) (young : (s.sensor.of q).age ≤ s.cfg.holdCycles) :
    s.given q = { value := v, kind := if (s.sensor.of q).age = 0 then .fresh else .held } := by
  by_cases fresh : (s.sensor.of q).age = 0
  · simp [State.given, sampled, good, fresh]
  · simp [State.given, sampled, good, fresh, young]

theorem given_of_unsampled_or_old {s : State} {q : Quantity}
    (h : (s.sensor.of q).sampled = false ∨ s.cfg.holdCycles < (s.sensor.of q).age) :
    s.given q = { value := s.cfg.fallback q, kind := .substituted } := by
  rcases h with unsampled | old
  · simp [State.given, unsampled]
  · have positive : (s.sensor.of q).age ≠ 0 := by omega
    unfold State.given
    dsimp only
    split
    · simp [positive, Nat.not_le.mpr old]
    · rfl

/-- The closing of the counts comes before the values are given and leaves them as they are. -/
theorem closeCycle_given (q : Quantity) (s : State) : (closeCycle s).given q = s.given q := by
  simp [State.given]

/-! ## The conditions PRESS SUBST and TEMP SUBST (R29) -/

theorem takeIntoDebt_isTrue (x : Nat) (c : Cond) (s : State) (h1 : c ≠ .pumpFault) (h2 : c ≠ .pumpStrained) :
    (takeIntoDebt x s).isTrue c = s.isTrue c := by
  unfold takeIntoDebt; split
  · exact setDebt_isTrue _ c s h1 h2
  · simp [setDebt_isTrue, raise_isTrue, h1, h2]

theorem charge_isTrue (w : Nat) (c : Cond) (s : State) (h1 : c ≠ .pumpFault) (h2 : c ≠ .pumpStrained) :
    (charge w s).isTrue c = s.isTrue c := by
  unfold charge landCharge; split
  · simp
  · simp [takeIntoDebt_isTrue, h1, h2]

theorem ownCycleEvent_isTrue (n : BitVec 32) (vb : Nat) (c : Cond) (s : State) (h1 : c ≠ .pumpFault)
    (h2 : c ≠ .pumpStrained) : (ownCycleEvent n vb s).isTrue c = s.isTrue c := by
  unfold ownCycleEvent; split
  · simp [addUndosed, raiseIf_isTrue]
  · simp [charge_isTrue, h1, h2]

theorem convert_isTrue (r : CycleRecord) (p t : Given) (c : Cond) (s : State) (h1 : c ≠ .pumpFault)
    (h2 : c ≠ .pumpStrained) : (convert r p t s).isTrue c = s.isTrue c := by
  simp [convert, ownCycleEvent_isTrue, h1, h2]

theorem reportGiven_isTrue (q : Quantity) (g : Given) (clamped : Bool) (c : Cond) (s : State) :
    (reportGiven q g clamped s).isTrue c = if c = substCond q then g.kind == .substituted else s.isTrue c := by
  simp [reportGiven, setLevel_isTrue]

theorem giveValues_isTrue (q : Quantity) (s : State) :
    (giveValues s).isTrue (substCond q) = ((s.given q).kind == .substituted) := by
  cases q <;> simp [giveValues, reportGiven_isTrue, substCond]

theorem cycleEnd_isTrue_subst (q : Quantity) (s : State) :
    (cycleEnd s).isTrue (substCond q) = true ↔ (s.given q).kind = .substituted := by
  have fault : substCond q ≠ .pumpFault := by cases q <;> decide
  have strained : substCond q ≠ .pumpStrained := by cases q <;> decide
  simp [cycleEnd, convert_isTrue, fault, strained, giveValues_isTrue, closeCycle_given]

/-! ## The flags of the values given (R30) -/

/-- What the value given for a quantity sets among the flags: its held, substituted or clamped flag. -/
def State.givenMark (s : State) (q : Quantity) (f : Flag) : Bool :=
  (decide (f = heldFlag q) && (s.given q).kind == .held) || (decide (f = clampedFlag q) && s.givenClamped q) ||
    (decide (f = substitutedFlag q) && (s.given q).kind == .substituted)

theorem closeCycle_givenMark (q : Quantity) (f : Flag) (s : State) : (closeCycle s).givenMark q f = s.givenMark q f := by
  simp [State.givenMark, State.givenClamped, closeCycle_given]

theorem reportGiven_openFlag_givenMark (q : Quantity) (f : Flag) (s t : State) :
    (reportGiven q (s.given q) (s.givenClamped q) t).store.openFlag f =
      (t.store.openFlag f).map (· || s.givenMark q f) := by
  have clamped : ((s.given q).kind != .substituted && s.givenClamped q) = s.givenClamped q := by
    simp [State.givenClamped]
  simp only [reportGiven_openFlag, clamped, State.givenMark, Bool.or_assoc]

theorem giveValues_openFlag_givenMark (f : Flag) (s : State) :
    (giveValues s).store.openFlag f =
      (s.store.openFlag f).map (· || (s.givenMark .pressure f || s.givenMark .temperature f)) := by
  simp [giveValues, reportGiven_openFlag_givenMark, Function.comp_def, Bool.or_assoc]

/-- The flags that a cycle end can set besides those of the values given: at the closing of the counts (R11) and at the
charge of the run (R101, R104, R138). -/
def otherCycleFlags : List Flag :=
  [.pulseMismatch, .pulseOverrange, .pumpFault, .pumpStrained, .debtReleased, .undosed]

theorem cycleEnd_openFlag_givenMark (f : Flag) (s : State) (h : f ∉ otherCycleFlags) :
    (cycleEnd s).store.openFlag f =
      (s.store.openFlag f).map (· || (s.givenMark .pressure f || s.givenMark .temperature f)) := by
  simp only [otherCycleFlags, List.mem_cons, List.not_mem_nil, or_false, not_or] at h
  obtain ⟨mismatch, overrange, fault, strained, released, undosed⟩ := h
  simp [cycleEnd, convert_openFlag, fault, strained, released, undosed, giveValues_openFlag_givenMark,
    closeCycle_givenMark, closeCycle_openFlag, mismatch, overrange]

/-- An interval that is open at a cycle end stays open, with the flags of both values given set in it. -/
theorem cycleEnd_current_givenMark (s : State) (i : CurrentInterval) (hi : s.store.current = some i) :
    ∃ j, (cycleEnd s).store.current = some j ∧
      ∀ f, f ∉ otherCycleFlags →
        j.hasFlag f = (i.hasFlag f || (s.givenMark .pressure f || s.givenMark .temperature f)) := by
  have hopen : (cycleEnd s).store.current.isSome = true := by simp [hi]
  obtain ⟨j, hj⟩ := Option.isSome_iff_exists.mp hopen
  refine ⟨j, hj, fun f hf => ?_⟩
  simpa [openFlag_of_current hj, openFlag_of_current hi] using cycleEnd_openFlag_givenMark f s hf

/-! ## The ages and the next poll -/

theorem giveValues_sensor (s : State) :
    (giveValues s).sensor =
      { s.sensor with givenP := s.given .pressure, givenT := s.given .temperature,
                      pressure := s.sensor.pressure.older, temperature := s.sensor.temperature.older } := by
  simp [giveValues]

theorem active_eq_none_iff (b : SensorBus) :
    b.active = none ↔ b.pressure.phase = .idle ∧ b.temperature.phase = .idle := by
  unfold SensorBus.active
  split
  · simp_all
  · split <;> simp_all

theorem pollDue_sensor_of_idle {s : State} (h : s.sensor.active = none) :
    (pollDue s).sensor =
      { s.sensor with
        pressure := { s.sensor.pressure with phase := .startCheck, checkStart := s.clock, stretchNotice := false } } := by
  rw [pollDue, if_pos h]; rfl

theorem pollDue_sensor_of_busy {s : State} (h : s.sensor.active ≠ none) :
    (pollDue s).sensor = { s.sensor with skipped := s.sensor.skipped + 1 } := by
  rw [pollDue, if_neg h]; rfl

/-- The bus after a cycle end that finds no transaction running: the poll starts (R16). -/
theorem cycleEnd_sensor_of_idle {s : State} (hp : s.sensor.pressure.phase = .idle)
    (ht : s.sensor.temperature.phase = .idle) :
    (cycleEnd s).sensor =
      { s.sensor with
        givenP := s.given .pressure, givenT := s.given .temperature,
        pressure := { s.sensor.pressure.older with phase := .startCheck, checkStart := s.clock, stretchNotice := false },
        temperature := s.sensor.temperature.older } := by
  unfold cycleEnd
  rw [pollDue_sensor_of_idle]
  · simp [giveValues_sensor, closeCycle_given]
  · simp [active_eq_none_iff, giveValues_sensor, Transmitter.older, hp, ht]

/-- The bus after a cycle end in the middle of a transaction: the poll is skipped and counted (R17). -/
theorem cycleEnd_sensor_of_busy {s : State}
    (h : s.sensor.pressure.phase ≠ .idle ∨ s.sensor.temperature.phase ≠ .idle) :
    (cycleEnd s).sensor =
      { s.sensor with
        givenP := s.given .pressure, givenT := s.given .temperature, skipped := s.sensor.skipped + 1,
        pressure := s.sensor.pressure.older, temperature := s.sensor.temperature.older } := by
  unfold cycleEnd
  rw [pollDue_sensor_of_busy]
  · simp [giveValues_sensor, closeCycle_given]
  · simpa [active_eq_none_iff, giveValues_sensor, Transmitter.older, imp_iff_not_or] using h

/-- Whether the poll starts or is skipped, the values given and the age of the temperature are the same. -/
theorem cycleEnd_sensor_given (s : State) :
    (cycleEnd s).sensor.givenP = s.given .pressure ∧ (cycleEnd s).sensor.givenT = s.given .temperature ∧
      (cycleEnd s).sensor.temperature = s.sensor.temperature.older := by
  by_cases idle : s.sensor.pressure.phase = .idle ∧ s.sensor.temperature.phase = .idle
  · obtain ⟨hp, ht⟩ := idle
    simp [cycleEnd_sensor_of_idle hp ht]
  · simp [cycleEnd_sensor_of_busy (not_and_or.mp idle)]

/-- Settles O33. The values are given from the bus as the cycle end finds it, before the ages rise and the poll falls due; what
the cycle end does besides touches neither the bus, nor the two conditions, nor the six flags. -/
theorem cycleEndGivesValuesAndPolls : Obligations.CycleEndGivesValuesAndPolls := by
  intro s t0 h0 hdue
  obtain ⟨givenP, givenT, temperature⟩ := cycleEnd_sensor_given s
  refine ⟨startIfChanged s (cycleEnd s), exec_cycleTimerExpiry_due s t0 h0 hdue, ?_⟩
  simp only [startIfChanged_frame, startIfChanged_reads, givenP, givenT]
  refine ⟨fun v => given_of_age_le (q := .pressure), given_of_unsampled_or_old (q := .pressure),
    fun v => given_of_age_le (q := .temperature), given_of_unsampled_or_old (q := .temperature),
    cycleEnd_isTrue_subst .pressure s, cycleEnd_isTrue_subst .temperature s, ?flags, temperature, ?starts, ?skips⟩
  case flags =>
    intro i hi
    obtain ⟨j, hj, marks⟩ := cycleEnd_current_givenMark s i hi
    refine ⟨j, hj, ?_, ?_, ?_, ?_, ?_, ?_⟩ <;>
      · rw [marks _ (by decide)]
        simp [State.givenMark, State.givenClamped, heldFlag, substitutedFlag, clampedFlag, SensorBus.of]
  case starts =>
    intro hp ht
    simp [cycleEnd_sensor_of_idle hp ht, Transmitter.older]
  case skips =>
    intro busy
    simp [cycleEnd_sensor_of_busy busy, Transmitter.older]

end Sys2Proof.Machine
end

section
/-! The compressibility factor of R37: one equation per part of the table, then its order over factors that do not fall. -/

namespace Sys2Proof.Machine

/-! ## The equations of the factor -/

/-- The factor on the segment from point `x` to point `y` (R37). -/
def segmentFactor (x y : Nat × Nat) (pf : Nat) : Nat := x.2 + (y.2 - x.2) * (pf - x.1) / (y.1 - x.1)

theorem segmentFactor_at_start (x y : Nat × Nat) : segmentFactor x y x.1 = x.2 := by simp [segmentFactor]

theorem factorAt_of_le_head {x : Nat × Nat} {pf : Nat} (rest : List (Nat × Nat)) (h : pf ≤ x.1) :
    factorAt pf (x :: rest) = x.2 := if_pos h

theorem factorAt_singleton (pf : Nat) (x : Nat × Nat) : factorAt pf [x] = x.2 := ite_self x.2

theorem factorAt_of_head_lt {x : Nat × Nat} {pf : Nat} (rest : List (Nat × Nat)) (h : x.1 < pf) :
    factorAt pf (x :: rest) = factorFrom pf x.1 x.2 rest := if_neg h.not_ge

/-- The search of the segments that starts at a point gives that point's factor at its own pressure. -/
theorem factorFrom_at_point (p f : Nat) (rest : List (Nat × Nat)) (above : ∀ y ∈ rest, p < y.1) :
    factorFrom p p f rest = f := by
  cases rest with
  | nil => rfl
  | cons y rest =>
    have next : p < y.1 := above y List.mem_cons_self
    simp [factorFrom, next]

theorem factorAt_on_first_segment {x y : Nat × Nat} {pf : Nat} (rest : List (Nat × Nat)) (hx : x.1 ≤ pf)
    (hy : pf < y.1) : factorAt pf (x :: y :: rest) = segmentFactor x y pf := by
  rcases hx.eq_or_lt with rfl | hx
  · rw [factorAt_of_le_head _ le_rfl, segmentFactor_at_start]
  · rw [factorAt_of_head_lt _ hx]
    exact if_pos hy

/-- From the second point on, the first no longer counts. -/
theorem factorAt_beyond_first_segment {x y : Nat × Nat} {rest : List (Nat × Nat)} {pf : Nat}
    (asc : (x :: y :: rest).Pairwise fun x y => x.1 < y.1) (hy : y.1 ≤ pf) :
    factorAt pf (x :: y :: rest) = factorAt pf (y :: rest) := by
  obtain ⟨afterX, ascY⟩ := List.pairwise_cons.mp asc
  obtain ⟨afterY, -⟩ := List.pairwise_cons.mp ascY
  have past : x.1 < pf := (afterX y List.mem_cons_self).trans_le hy
  have search : factorAt pf (x :: y :: rest) = factorFrom pf y.1 y.2 rest :=
    (factorAt_of_head_lt _ past).trans (if_neg hy.not_gt)
  rcases hy.eq_or_lt with rfl | hy
  · rw [search, factorAt_of_le_head _ le_rfl, factorFrom_at_point _ _ _ afterY]
  · rw [search, factorAt_of_head_lt _ hy]

/-! ## The last point and the segments of a whole table -/

theorem head_pressure_le {x z : Nat × Nat} {rest : List (Nat × Nat)}
    (asc : (x :: rest).Pairwise fun x y => x.1 < y.1) (hz : z ∈ x :: rest) : x.1 ≤ z.1 := by
  rcases List.mem_cons.mp hz with rfl | inRest
  · exact le_rfl
  · exact (List.rel_of_pairwise_cons asc inRest).le

theorem factorAt_of_last_le {points : List (Nat × Nat)} {pf : Nat} {z : Nat × Nat}
    (asc : points.Pairwise fun x y => x.1 < y.1) (last : points.getLast? = some z) (hz : z.1 ≤ pf) :
    factorAt pf points = z.2 := by
  induction points with
  | nil => cases last
  | cons x rest ih =>
    cases rest with
    | nil => cases last; exact factorAt_singleton pf x
    | cons y rest =>
      have ascY := asc.of_cons
      rw [List.getLast?_cons_cons] at last
      have hy : y.1 ≤ z.1 := head_pressure_le ascY (List.mem_of_getLast? last)
      rw [factorAt_beyond_first_segment asc (hy.trans hz), ih ascY last]

theorem factorAt_on_segment {points : List (Nat × Nat)} {pf i : Nat} {a b : Nat × Nat}
    (asc : points.Pairwise fun x y => x.1 < y.1) (ha : points[i]? = some a) (hb : points[i + 1]? = some b)
    (from_a : a.1 ≤ pf) (below_b : pf < b.1) : factorAt pf points = segmentFactor a b pf := by
  induction points generalizing i with
  | nil => simp at ha
  | cons x rest ih =>
    cases rest with
    | nil => simp at hb
    | cons y rest =>
      cases i with
      | zero =>
        obtain rfl : x = a := by simpa using ha
        obtain rfl : y = b := by simpa using hb
        exact factorAt_on_first_segment rest from_a below_b
      | succ i =>
        rw [List.getElem?_cons_succ] at ha hb
        have ascY := asc.of_cons
        have hy : y.1 ≤ a.1 := head_pressure_le ascY (List.mem_of_getElem? ha)
        rw [factorAt_beyond_first_segment asc (hy.trans from_a), ih ascY ha hb]

/-! ## Factors that do not fall -/

theorem le_segmentFactor (x y : Nat × Nat) (pf : Nat) : x.2 ≤ segmentFactor x y pf := Nat.le_add_right _ _

theorem segmentFactor_mono (x y : Nat × Nat) {pf pf2 : Nat} (h : pf ≤ pf2) :
    segmentFactor x y pf ≤ segmentFactor x y pf2 := by
  unfold segmentFactor
  gcongr

theorem segmentFactor_le {x y : Nat × Nat} {pf : Nat} (rise : x.2 ≤ y.2) (hy : pf < y.1) : segmentFactor x y pf ≤ y.2 := by
  have part : (y.2 - x.2) * (pf - x.1) / (y.1 - x.1) ≤ y.2 - x.2 := by
    refine Nat.div_le_of_le_mul ?_
    rw [Nat.mul_comm]
    gcongr
  unfold segmentFactor
  omega

theorem head_le_factorAt {x : Nat × Nat} {rest : List (Nat × Nat)} (pf : Nat)
    (asc : (x :: rest).Pairwise fun x y => x.1 < y.1) (rise : (x :: rest).Pairwise fun x y => x.2 ≤ y.2) :
    x.2 ≤ factorAt pf (x :: rest) := by
  induction rest generalizing x with
  | nil => exact (factorAt_singleton pf x).ge
  | cons y rest ih =>
    rcases le_or_gt pf x.1 with atStart | past
    · exact (factorAt_of_le_head _ atStart).ge
    rcases lt_or_ge pf y.1 with onSegment | beyond
    · rw [factorAt_on_first_segment rest past.le onSegment]
      exact le_segmentFactor x y pf
    · rw [factorAt_beyond_first_segment asc beyond]
      exact (List.rel_of_pairwise_cons rise List.mem_cons_self).trans (ih asc.of_cons rise.of_cons)

/-- The factor does not fall as the pressure rises: within a segment by its formula, across a point through that point's own
factor. -/
theorem factorAt_mono {points : List (Nat × Nat)} {pf pf2 : Nat} (asc : points.Pairwise fun x y => x.1 < y.1)
    (rise : points.Pairwise fun x y => x.2 ≤ y.2) (h : pf ≤ pf2) : factorAt pf points ≤ factorAt pf2 points := by
  induction points with
  | nil => exact le_rfl
  | cons x rest ih =>
    rcases le_or_gt pf x.1 with atStart | past
    · rw [factorAt_of_le_head _ atStart]
      exact head_le_factorAt pf2 asc rise
    cases rest with
    | nil => simp [factorAt_singleton]
    | cons y rest =>
      rcases lt_or_ge pf2 y.1 with onSegment2 | beyond2
      · rw [factorAt_on_first_segment rest past.le (h.trans_lt onSegment2),
          factorAt_on_first_segment rest (past.le.trans h) onSegment2]
        exact segmentFactor_mono x y h
      rw [factorAt_beyond_first_segment asc beyond2]
      rcases lt_or_ge pf y.1 with onSegment | beyond
      · calc factorAt pf (x :: y :: rest) = segmentFactor x y pf := factorAt_on_first_segment rest past.le onSegment
          _ ≤ y.2 := segmentFactor_le (List.rel_of_pairwise_cons rise List.mem_cons_self) onSegment
          _ ≤ factorAt pf2 (y :: rest) := head_le_factorAt pf2 asc.of_cons rise.of_cons
      · rw [factorAt_beyond_first_segment asc beyond]
        exact ih asc.of_cons rise.of_cons

/-- The last factor is reached at the last pressure or beyond, so no pressure gives more. -/
theorem factorAt_le_last {points : List (Nat × Nat)} {z : Nat × Nat} (pf : Nat)
    (asc : points.Pairwise fun x y => x.1 < y.1) (rise : points.Pairwise fun x y => x.2 ≤ y.2)
    (last : points.getLast? = some z) : factorAt pf points ≤ z.2 :=
  calc factorAt pf points ≤ factorAt (max pf z.1) points := factorAt_mono asc rise (le_max_left _ _)
    _ = z.2 := factorAt_of_last_le asc last (le_max_right _ _)

/-- Settles O30. Clause by clause from the equations of the factor and its order. -/
theorem factorInterpolatesTheTable : Obligations.FactorInterpolatesTheTable := by
  intro points pf asc
  refine ⟨?first, fun _ => factorAt_of_last_le asc, fun _ _ _ => factorAt_on_segment asc,
    fun rise => ⟨fun _ => factorAt_mono asc rise, ?bounds⟩⟩
  case first =>
    intro x head hx
    obtain ⟨rest, rfl⟩ := List.head?_eq_some_iff.mp head
    exact factorAt_of_le_head rest hx
  case bounds =>
    intro x z head last
    refine ⟨?_, factorAt_le_last pf asc rise last⟩
    obtain ⟨rest, rfl⟩ := List.head?_eq_some_iff.mp head
    exact head_le_factorAt pf asc rise

end Sys2Proof.Machine
end

section
/-! What a cycle end does in the Conversion Unit (R34 to R42) and what it hands on of the conversion: Vb to the filter and to the
header cumulative, the cycle with its Pf and Tf to the open interval (R44, R163). -/

namespace Sys2Proof.Machine

/-! ## The conversion of a cycle -/

/-- Vb and the new Q are the quotient and the remainder of Va × C + Q (R40). A cycle without pulses keeps Q as it is, which is
the same where Q is below 65,536 (R41). -/
theorem conversion_quotient_and_remainder (s : State) (r : CycleRecord) (p t : Given) (hq : s.conv.q < 65536) :
    (s.conversion r p t).vb * 65536 + (s.conversion r p t).q =
        (s.conversion r p t).va * (s.conversion r p t).c + s.conv.q ∧
      (s.conversion r p t).q < 65536 := by
  by_cases noPulses : r.n = 0
  · simp [State.conversion, noPulses, hq]
  · simp only [State.conversion, noPulses, if_false]
    exact ⟨Nat.div_add_mod' _ _, Nat.mod_lt _ (by decide)⟩

/-- The conversion of the cycle that a cycle end closes: its N at the values given (R34). -/
def State.cycleConversion (s : State) : ConversionRecord :=
  s.conversion s.cycleRecord (s.given .pressure) (s.given .temperature)

/-- The state in which a cycle end converts gives the conversion of the state it finds. -/
theorem giveValues_closeCycle_conversion (s : State) :
    (giveValues (closeCycle s)).conversion s.cycleRecord (s.given .pressure) (s.given .temperature) = s.cycleConversion := by
  simp [State.cycleConversion, State.conversion]

theorem cycleEnd_eq (s : State) :
    cycleEnd s =
      pollDue (convert s.cycleRecord (s.given .pressure) (s.given .temperature) (giveValues (closeCycle s))) := by
  simp [cycleEnd, closeCycle_pulse, giveValues_sensor, closeCycle_given]

theorem cycleEnd_conv (s : State) :
    (cycleEnd s).conv =
      { s.conv with q := s.cycleConversion.q, actual := s.conv.actual + BitVec.ofNat 64 s.cycleConversion.va,
                    base := s.conv.base + BitVec.ofNat 64 s.cycleConversion.vb, last := s.cycleConversion } := by
  simp [cycleEnd_eq, convert, giveValues_closeCycle_conversion, applyConversion]

theorem cycleEnd_filter (s : State) :
    (cycleEnd s).filter =
      { s.filter with volume := s.filter.volume + BitVec.ofNat 64 s.cycleConversion.vb } := by
  simp [cycleEnd_eq, convert, giveValues_closeCycle_conversion, addHeader]

theorem cycleEnd_header (s : State) :
    (cycleEnd s).store.header = s.store.header + BitVec.ofNat 64 s.cycleConversion.vb := by
  simp [cycleEnd_eq, convert, giveValues_closeCycle_conversion, addHeader]

/-! ## The cycles and the sums of the open interval -/

/-- The figures of the open interval that its averages come from: cycles, sum of Pf, sum of Tf (R163); none while no interval
is open. -/
def IntervalStore.cycleFigures (b : IntervalStore) : Option (BitVec 32 × BitVec 64 × BitVec 64) :=
  b.current.map fun i => (i.cycles, i.sumPf, i.sumTf)

theorem cycleFigures_of_current {b : IntervalStore} {i : CurrentInterval} (h : b.current = some i) :
    b.cycleFigures = some (i.cycles, i.sumPf, i.sumTf) := by simp [IntervalStore.cycleFigures, h]

theorem onInterval_cycleFigures (u : CurrentInterval → CurrentInterval) (s : State)
    (h : ∀ i, (u i).cycles = i.cycles ∧ (u i).sumPf = i.sumPf ∧ (u i).sumTf = i.sumTf) :
    (onInterval u s).store.cycleFigures = s.store.cycleFigures := by
  simp [onInterval, IntervalStore.cycleFigures, Function.comp_def, h]

@[simp] theorem setFlag_cycleFigures (f : Flag) (s : State) : (setFlag f s).store.cycleFigures = s.store.cycleFigures :=
  onInterval_cycleFigures _ s fun _ => ⟨rfl, rfl, rfl⟩

@[simp] theorem setFlagIf_cycleFigures (v : Bool) (f : Flag) (s : State) :
    (setFlagIf v f s).store.cycleFigures = s.store.cycleFigures := by
  cases v <;> simp [setFlagIf]

@[simp] theorem raiseIf_cycleFigures (v : Bool) (c : Cond) (f : Flag) (s : State) :
    (raiseIf v c f s).store.cycleFigures = s.store.cycleFigures := by
  cases v <;> simp [raiseIf]

@[simp] theorem reportPump_cycleFigures (s : State) : (reportPump s).store.cycleFigures = s.store.cycleFigures := by
  simp [reportPump, setLevelFlag]

@[simp] theorem setDebt_cycleFigures (x : Nat) (s : State) : (setDebt x s).store.cycleFigures = s.store.cycleFigures := by
  unfold setDebt; split
  · rfl
  · simp

@[simp] theorem addReleased_cycleFigures (x : Nat) (s : State) :
    (addReleased x s).store.cycleFigures = s.store.cycleFigures := by
  simp [addReleased, onInterval_cycleFigures]

@[simp] theorem takeIntoDebt_cycleFigures (x : Nat) (s : State) :
    (takeIntoDebt x s).store.cycleFigures = s.store.cycleFigures := by
  unfold takeIntoDebt; split <;> simp

@[simp] theorem charge_cycleFigures (w : Nat) (s : State) : (charge w s).store.cycleFigures = s.store.cycleFigures := by
  unfold charge landCharge; split <;> simp [onInterval_cycleFigures]

@[simp] theorem addUndosed_cycleFigures (vb : Nat) (s : State) :
    (addUndosed vb s).store.cycleFigures = s.store.cycleFigures := by
  simp [addUndosed, onInterval_cycleFigures]

/-- Dose Accounting charges its own figures to the interval and leaves the cycles and the sums. -/
@[simp] theorem ownCycleEvent_cycleFigures (n : BitVec 32) (vb : Nat) (s : State) :
    (ownCycleEvent n vb s).store.cycleFigures = s.store.cycleFigures := by
  unfold ownCycleEvent; split <;> simp

@[simp] theorem addHeader_cycleFigures (x : Nat) (s : State) : (addHeader x s).store.cycleFigures = s.store.cycleFigures := by
  simp [addHeader, IntervalStore.cycleFigures]

@[simp] theorem reportGiven_cycleFigures (q : Quantity) (g : Given) (clamped : Bool) (s : State) :
    (reportGiven q g clamped s).store.cycleFigures = s.store.cycleFigures := by
  simp [reportGiven]

@[simp] theorem giveValues_cycleFigures (s : State) : (giveValues s).store.cycleFigures = s.store.cycleFigures := by
  simp [giveValues]

@[simp] theorem closeCycle_cycleFigures (s : State) : (closeCycle s).store.cycleFigures = s.store.cycleFigures := by
  simp [closeCycle]

theorem countCycle_cycleFigures (pf tf : Nat) (s : State) :
    (countCycle pf tf s).store.cycleFigures =
      s.store.cycleFigures.map fun (cycles, sumPf, sumTf) =>
        (cycles + 1, sumPf + BitVec.ofNat 64 pf, sumTf + BitVec.ofNat 64 tf) := by
  simp [countCycle, onInterval, IntervalStore.cycleFigures, Function.comp_def]

theorem cycleEnd_cycleFigures (s : State) :
    (cycleEnd s).store.cycleFigures =
      s.store.cycleFigures.map fun (cycles, sumPf, sumTf) =>
        (cycles + 1, sumPf + BitVec.ofNat 64 (s.given .pressure).value,
          sumTf + BitVec.ofNat 64 (s.given .temperature).value) := by
  simp [cycleEnd_eq, convert, countCycle_cycleFigures, State.conversion]

/-- An interval that is open at a cycle end stays open, with the cycle counted and the values given in its sums. -/
theorem cycleEnd_current_cycleFigures (s : State) (i : CurrentInterval) (hi : s.store.current = some i) :
    ∃ j, (cycleEnd s).store.current = some j ∧ j.cycles = i.cycles + 1 ∧
      j.sumPf = i.sumPf + BitVec.ofNat 64 (s.given .pressure).value ∧
      j.sumTf = i.sumTf + BitVec.ofNat 64 (s.given .temperature).value := by
  have hopen : (cycleEnd s).store.current.isSome = true := by simp [hi]
  obtain ⟨j, hj⟩ := Option.isSome_iff_exists.mp hopen
  refine ⟨j, hj, ?_⟩
  simpa [cycleFigures_of_current hj, cycleFigures_of_current hi] using cycleEnd_cycleFigures s

/-- Settles O34. The conversion is that of the closed cycle's N at the values given; Q, the cumulatives and the record come from
it, and nothing else in the cycle end touches them, the filter, the header cumulative or the interval's sums. -/
theorem cycleEndConvertsTheCount : Obligations.CycleEndConvertsTheCount := by
  intro s t0 h0 hdue hq
  obtain ⟨givenP, givenT, -⟩ := cycleEnd_sensor_given s
  obtain ⟨quotient, remainder⟩ :=
    conversion_quotient_and_remainder s s.cycleRecord (s.given .pressure) (s.given .temperature) hq
  refine ⟨startIfChanged s (cycleEnd s), s.cycleConversion.va, s.cycleConversion.f, s.cycleConversion.c,
    s.cycleConversion.vb, exec_cycleTimerExpiry_due s t0 h0 hdue, ?_⟩
  simp only [startIfChanged_frame, givenP, givenT, cycleEnd_pulse, closeCycle_pulse, cycleEnd_conv, cycleEnd_filter,
    cycleEnd_header, true_and]
  exact ⟨rfl, rfl, rfl, quotient, remainder, rfl, cycleEnd_current_cycleFigures s⟩

end Sys2Proof.Machine
end

section
/-! The dose balance of R95. Each operation of Dose Accounting moves both sides of the account by the same amount; the balance
then follows through the operations that call it, through every command, and through a step. -/

namespace Sys2Proof.Machine

/-! ## The two equalities on the account alone -/

/-- The account of R95 while an amount that charged or adopted already counts is still to be taken into debt (R104). -/
def BalancedButFor (d : DoseAccounting) (amount : Nat) : Prop :=
  d.charged + d.adopted =
      d.debited + d.released + d.surrendered + BitVec.ofNat 64 d.debt + BitVec.ofNat 64 amount ∧
    d.delivered = d.debited + d.excess

/-- An amount split in two is the sum of the parts, also as 64-bit words. -/
theorem ofNat_split {whole part : Nat} (h : part ≤ whole) :
    BitVec.ofNat 64 whole = BitVec.ofNat 64 part + BitVec.ofNat 64 (whole - part) := by
  rw [← BitVec.ofNat_add, Nat.add_sub_of_le h]

theorem BalancedButFor.took {d : DoseAccounting} {amount : Nat} (h : BalancedButFor d amount) (ceiling : Nat) :
    DoseBalanced (d.took ceiling amount) := by
  obtain ⟨sides, delivered⟩ := h
  unfold DoseAccounting.took
  split
  · exact ⟨by rw [sides, BitVec.ofNat_add]; ac_rfl, delivered⟩
  · next h =>
    have parts := ofNat_split (Nat.le_of_not_le h)
    rw [BitVec.ofNat_add] at parts
    exact ⟨by linear_combination sides + parts, delivered⟩

theorem DoseBalanced.charged {d : DoseAccounting} (h : DoseBalanced d) (x r : Nat) :
    BalancedButFor { d with r := r, charged := d.charged + BitVec.ofNat 64 x } x := by
  obtain ⟨sides, delivered⟩ := h
  exact ⟨by linear_combination sides, delivered⟩

theorem DoseBalanced.adopted {d : DoseAccounting} (h : DoseBalanced d) (x : Nat) (a : Option Adoption) :
    BalancedButFor { d with adopted := d.adopted + BitVec.ofNat 64 x, lastAdoption := a } x := by
  obtain ⟨sides, delivered⟩ := h
  exact ⟨by linear_combination sides, delivered⟩

/-! ## The operations of Dose Accounting -/

section
variable {s : State} (h : DoseBalanced s.dose)
include h

theorem release_balanced : DoseBalanced (release s).dose := by
  obtain ⟨sides, delivered⟩ := h
  rw [release_dose]
  exact ⟨by simp only [sides, BitVec.add_zero]; ac_rfl, delivered⟩

theorem charge_balanced (w : Nat) : DoseBalanced (charge w s).dose := by
  rw [charge_charging]
  unfold DoseAccounting.charging
  split
  · exact h
  · exact (h.charged _ _).took _

theorem adopt_balanced (k : AdoptionKind) (p o d : Nat) : DoseBalanced (adopt k p o d s).dose := by
  unfold adopt
  rw [takeIntoDebt_took]
  exact (h.adopted _ _).took _

theorem surrender_balanced : DoseBalanced (surrender s).dose := by
  obtain ⟨sides, delivered⟩ := h
  rw [surrender_surrendering]
  have parts := ofNat_split (Nat.min_le_left s.dose.debt s.peers.lastSharedDebt.toNat)
  exact ⟨by simp only [DoseAccounting.surrendering]; linear_combination sides + parts, delivered⟩

theorem debit_balanced : DoseBalanced (debit s).dose := by
  obtain ⟨sides, delivered⟩ := h
  rw [debit_dose s _ rfl]
  have ofDebt := ofNat_split (Nat.min_le_right s.cfg.strokeMass s.dose.debt)
  have ofMass := ofNat_split (Nat.min_le_left s.cfg.strokeMass s.dose.debt)
  exact ⟨by linear_combination sides + ofDebt, by linear_combination delivered + ofMass⟩

theorem ownCycleEvent_balanced (n : BitVec 32) (vb : Nat) : DoseBalanced (ownCycleEvent n vb s).dose := by
  unfold ownCycleEvent recordOwnCycle
  split
  · rw [State.withDose_dose, addUndosed_dose]
    exact h
  · exact charge_balanced h _

/-! ## Modes and the Tally Line Interface -/

theorem leaveShared_balanced (c : SoloCause) : DoseBalanced (leaveShared c s).dose :=
  surrender_balanced (by simpa using h)

theorem aloneIfNone_balanced : DoseBalanced (aloneIfNone s).dose := by
  unfold aloneIfNone
  split
  · exact leaveShared_balanced h _
  · exact h

theorem switchToShared_balanced (d : BitVec 32) : DoseBalanced (switchToShared d s).dose :=
  aloneIfNone_balanced (by simpa using h)

theorem reportSent_balanced (p : Pending) : DoseBalanced (reportSent p s).dose := by
  unfold reportSent
  split
  · exact h
  · split
    · split
      · exact h
      · exact h
      · split
        · exact h
        · exact switchToShared_balanced h _
      · exact h
      · exact h
    · exact h

theorem frameIsSent_balanced (p : Pending) : DoseBalanced (frameIsSent p s).dose := by
  simp only [frameIsSent, buildOwed_frame]
  exact reportSent_balanced (by simpa using h) p

theorem park_balanced : DoseBalanced (park s).dose := by
  simp only [park, fallDue_frame]
  exact release_balanced (by simpa using h)

/-! ## The Peer Table -/

theorem handAdoption_balanced (k : AdoptionKind) (n amount : Nat) : DoseBalanced (handAdoption k n amount s).dose := by
  unfold handAdoption
  split
  · simpa using adopt_balanced h k n amount (s.denominatorWithout n)
  · exact h

theorem handCharge_balanced (last now : Bool) (dL : BitVec 32) : DoseBalanced (handCharge last now dL s).dose := by
  unfold handCharge
  split
  · simpa [peerCharge] using charge_balanced h (dL.toNat * 1000000 * s.cfg.doseTarget)
  · exact h

theorem handTallyAdoption_balanced (n : Nat) (last : LiveFields) (now : Bool) (dR : Nat) :
    DoseBalanced (handTallyAdoption n last now dR s).dose := by
  unfold handTallyAdoption
  split
  · split
    · split
      · exact handAdoption_balanced h _ _ _
      · exact h
    · exact handAdoption_balanced h _ _ _
  · exact h

theorem acceptTally_balanced (f : TallyFrame) (last : LiveFields) : DoseBalanced (acceptTally f last s).dose := by
  unfold acceptTally
  dsimp only
  split
  · exact handTallyAdoption_balanced (by simpa using h) _ _ _ _
  · simp only [addDelivered_frame, addHeader_frame]
    exact handTallyAdoption_balanced (handCharge_balanced (by simpa using h) _ _ _) _ _ _ _

theorem acceptLeave_balanced (f : LeaveFrame) (last : LiveFields) : DoseBalanced (acceptLeave f last s).dose := by
  refine aloneIfNone_balanced ?_
  split
  · simpa using h
  · split
    · exact handAdoption_balanced (by simpa using h) _ _ _
    · simpa using h

theorem takeFrame_balanced (f : Frame) : DoseBalanced (takeFrame f s).dose := by
  cases f with
  | tally f =>
    simp only [takeFrame, takeTally]
    split
    · split
      · exact h
      · exact acceptTally_balanced h _ _
    · simpa using h
  | leave f =>
    simp only [takeFrame, takeLeave]
    split
    · split
      · exact h
      · exact acceptLeave_balanced h _ _
    · simpa using h

theorem duplicate_balanced : DoseBalanced (duplicate s).dose := by
  simp only [duplicate, setLevel_frame, silence_frame, setSwitchPending_frame]
  split
  · exact leaveShared_balanced h _
  · simpa using h

theorem goodFrame_balanced (f : Frame) : DoseBalanced (goodFrame f s).dose := by
  unfold goodFrame
  dsimp only
  split
  · split
    · simpa using h
    · exact duplicate_balanced (by simpa using h)
  · exact takeFrame_balanced (by simpa using h) _

theorem expire_balanced (n : Nat) (f : LiveFields) : DoseBalanced (expire n f s).dose := by
  refine aloneIfNone_balanced ?_
  split
  · exact handAdoption_balanced (by simpa using h) _ _ _
  · simpa using h

/-! ## The Pump Sequencer -/

theorem confirmStroke_balanced (k : Stroke) : DoseBalanced (confirmStroke k s).dose := by
  unfold confirmStroke
  dsimp only
  split
  · simpa using h
  · simp only [confirmDosing, onInterval_frame]
    exact debit_balanced h

theorem enterFault_balanced : DoseBalanced (enterFault s).dose := release_balanced (by simpa using h)

theorem missStroke_balanced : DoseBalanced (missStroke s).dose := by
  have counted : DoseBalanced (onInterval (fun i => { i with missed := i.missed + 1 })
      (s.withPump { s.pump with missed := s.pump.missed + 1 })).dose := by simpa using h
  unfold missStroke
  dsimp only
  split
  · exact enterFault_balanced counted
  · split
    · exact enterFault_balanced counted
    · exact counted
  · split
    · exact counted
    · exact counted
  · exact counted
  · exact counted
  · exact counted

theorem takePulse_balanced : DoseBalanced (takePulse s).dose := by
  unfold takePulse
  split
  · split
    · simpa using h
    · split
      · exact confirmStroke_balanced h _
      · simpa using confirmStroke_balanced h _
      · simpa using h
      · simpa using h
  · simpa using h

/-! ## The cycle end -/

theorem convert_balanced (r : CycleRecord) (p t : Given) : DoseBalanced (convert r p t s).dose :=
  ownCycleEvent_balanced (by simpa using h) _ _

theorem cycleEnd_balanced : DoseBalanced (cycleEnd s).dose := by
  simp only [cycleEnd, pollDue_frame]
  exact convert_balanced (by simpa using h) _ _ _

end

/-! ## The commands -/

/-- The commands whose rules charge, adopt, debit, release or surrender, or set the account anew. -/
def movesDose : Instr → Bool
  | .coldReset .. | .cycleTimerExpiry | .frameEnd .. | .frameSent | .peerExpiry _ | .unheard | .driveEnd
  | .confirmationPulse | .confirmWindowExpiry | .hold | .leave => true
  | _ => false

theorem exec_dose_of_not_movesDose {i : Instr} {s t : State} (quiet : movesDose i = false) (h : exec i s = .next t) :
    t.dose = s.dose := by
  cases i
  case coldReset | cycleTimerExpiry | frameEnd | frameSent | peerExpiry | unheard | driveEnd | confirmationPulse |
      confirmWindowExpiry | hold | leave => cases quiet
  case pulseEdge change =>
    simp only [exec, execPulseEdge] at h
    split at h <;> cases h <;> (repeat' split) <;> simp
  case status | totals | record | nextRecord | unrecognisedSelector | transactionAbandoned | clearLatches |
      commandSelector | writeEndedPartWay | strokeStart | spacingRunsOut => cases h; simp
  case busReleased | busHeld | stretchNotice | stretchAbort | addressNack | transactionEnd | recoveryEnd =>
    simp only [exec, execBusReleased, execBusHeld, execStretchNotice, execStretchAbort, execAddressNack,
      execTransactionEnd, execRecoveryEnd] at h
    (repeat' split at h) <;> cases h <;> simp
  case receiverSynced | tallyTimerExpiry | lineIdle | holdoffEnd | deferral | collision =>
    simp only [exec, execReceiverSynced, execTallyTimerExpiry, execLineIdle, execHoldoffEnd, execDeferral,
      execCollision] at h
    (repeat' split at h) <;> cases h <;> simp
  case fillEnd | recoverEnd | historyEntryLeaves | periodTimerExpiry | lowDwellExpiry | intervalTimerExpiry =>
    simp only [exec, execFillEnd, execRecoverEnd, execHistoryEntryLeaves, execPeriodTimerExpiry, execLowDwellExpiry,
      execIntervalTimerExpiry] at h
    split at h <;> cases h <;> simp
  case start | peer | config | configWrite | resume | pumpReset | join | mark | unknown =>
    simp only [exec, execStart, execPeer, execConfig, execConfigWrite, execResume, execPumpReset, execJoin, execMark,
      execUnknown] at h
    (repeat' split at h) <;> cases h <;> simp

/-! The commands that move the account, each in the branch where its rule applies. -/

theorem resetNode_balanced (n : BitVec 4) (a : BitVec 2) (x y z : Bool) (s : State) :
    DoseBalanced (resetNode n a x y z s).dose := ⟨rfl, rfl⟩

section
variable {s t : State} (hs : DoseBalanced s.dose)
include hs

theorem execCycleTimerExpiry_balanced (h : execCycleTimerExpiry s = .next t) : DoseBalanced t.dose := by
  unfold execCycleTimerExpiry at h
  split at h <;> cases h
  · simpa using cycleEnd_balanced hs
  · exact hs

theorem execFrameEnd_balanced {bytes : List Byte} {framingError overLong : Bool}
    (h : execFrameEnd bytes framingError overLong s = .next t) : DoseBalanced t.dose := by
  simp only [execFrameEnd] at h
  split at h
  · split at h
    · cases h; simpa using hs
    · split at h <;> cases h
      · simpa using hs
      · simpa using goodFrame_balanced (by simpa using hs) _
  · cases h; exact hs

theorem execFrameSent_balanced (h : execFrameSent s = .next t) : DoseBalanced t.dose := by
  unfold execFrameSent at h
  split at h <;> cases h
  · simpa using frameIsSent_balanced hs _
  · exact hs

theorem execPeerExpiry_balanced {node : Nat} (h : execPeerExpiry node s = .next t) : DoseBalanced t.dose := by
  unfold execPeerExpiry at h
  split at h
  · split at h <;> cases h
    · simpa using expire_balanced hs _ _
    · exact hs
  · cases h; exact hs

theorem execUnheard_balanced (h : execUnheard s = .next t) : DoseBalanced t.dose := by
  unfold execUnheard at h
  split at h <;> cases h
  · simpa using leaveShared_balanced hs _
  · exact hs

theorem execDriveEnd_balanced (h : execDriveEnd s = .next t) : DoseBalanced t.dose := by
  unfold execDriveEnd at h
  split at h
  · split at h
    · split at h
      · cases h; simpa using confirmStroke_balanced hs _
      · split at h <;> cases h <;> simpa using hs
    · cases h; exact hs
  · cases h; exact hs

theorem execConfirmationPulse_balanced (h : execConfirmationPulse s = .next t) : DoseBalanced t.dose := by
  simp only [execConfirmationPulse] at h
  split at h
  · cases h; exact hs
  · split at h <;> cases h
    · simpa using hs
    · simpa using takePulse_balanced (by simpa using hs)

theorem execConfirmWindowExpiry_balanced (h : execConfirmWindowExpiry s = .next t) : DoseBalanced t.dose := by
  unfold execConfirmWindowExpiry at h
  split at h <;> cases h
  · simpa using missStroke_balanced (by simpa using hs)
  · exact hs

theorem execHold_balanced (h : execHold s = .next t) : DoseBalanced t.dose := by
  unfold execHold at h
  split at h <;> cases h
  · simpa using release_balanced (by simpa using hs)
  · simpa using hs

theorem execLeave_balanced (h : execLeave s = .next t) : DoseBalanced t.dose := by
  unfold execLeave at h
  split at h <;> cases h
  · simpa using park_balanced hs
  · simpa using hs

theorem exec_balanced {i : Instr} (h : exec i s = .next t) : DoseBalanced t.dose := by
  cases moves : movesDose i
  case false => rwa [exec_dose_of_not_movesDose moves h]
  case true =>
    cases i
    case coldReset => cases h; exact resetNode_balanced ..
    case cycleTimerExpiry => exact execCycleTimerExpiry_balanced hs h
    case frameEnd => exact execFrameEnd_balanced hs h
    case frameSent => exact execFrameSent_balanced hs h
    case peerExpiry => exact execPeerExpiry_balanced hs h
    case unheard => exact execUnheard_balanced hs h
    case driveEnd => exact execDriveEnd_balanced hs h
    case confirmationPulse => exact execConfirmationPulse_balanced hs h
    case confirmWindowExpiry => exact execConfirmWindowExpiry_balanced hs h
    case hold => exact execHold_balanced hs h
    case leave => exact execLeave_balanced hs h
    all_goals cases moves

end

/-! ## A step -/

/-- A step is one millisecond of the clock, or one command on a state whose queue and count of choices alone may differ. -/
theorem step_cases {s t : State} (h : step s = .next t) :
    t = tick s ∨ ∃ i rest n, exec i ((s.withPending rest).withChoices n) = .next t := by
  unfold step at h
  split at h
  · next c rest _ => exact .inr ⟨c, rest, s.choices, h⟩
  · unfold idleStep at h
    split at h
    · cases h; exact .inl rfl
    · next c _ => exact .inr ⟨c, s.pending, s.choices, h⟩
    · next c d rest _ => exact .inr ⟨_, s.pending, s.choices + 1, h⟩

/-- Settles O15. The clock is no part of the account, and every command keeps it balanced: what it adds on one side of R95 it
adds on the other, or takes from the debt. -/
theorem stepKeepsDoseBalance : Obligations.StepKeepsDoseBalance := by
  intro s t hs h
  obtain rfl | ⟨i, rest, n, hi⟩ := step_cases h
  · exact hs
  · exact exec_balanced (by simpa using hs) hi

end Sys2Proof.Machine
end

section
/-! The advertised capacity of R137, the denominator S of R81 and the share of R97: an equation per condition and per mode, and
the whole as the share's ceiling. -/

namespace Sys2Proof.Machine

/-! ## The advertised capacity -/

section
variable {s : State}

theorem State.advertised_of_available (hc : s.pump.condition = .available) (hs : s.pump.strained = false) :
    s.advertised = s.cfg.capacityClass := by
  simp [State.advertised, hc, hs]

theorem State.advertised_of_strained (hc : s.pump.condition = .available) (hs : s.pump.strained = true) :
    s.advertised = max 1 (s.cfg.capacityClass / 2) := by
  simp [State.advertised, hc, hs]

theorem State.advertised_of_not_available (hc : s.pump.condition ≠ .available) : s.advertised = 0 := if_neg hc

/-! ## The denominator -/

theorem State.denominator_of_shared (hm : s.peers.mode = .shared) :
    s.denominator = s.advertised + s.peers.sharedCapacity := by
  simp [State.denominator, State.denominatorFrom, hm]

theorem State.denominator_of_isSolo (hm : s.peers.mode.isSolo = true) : s.denominator = s.advertised := by
  cases mode : s.peers.mode with
  | solo cause => simp [State.denominator, State.denominatorFrom, mode]
  | _ => simp [mode, Mode.isSolo] at hm

theorem Mode.isActive_iff {m : Mode} : m.isActive = true ↔ m = .shared ∨ m.isSolo = true := by
  cases m <;> simp [Mode.isActive, Mode.isSolo]

theorem State.advertised_le_denominator (hm : s.peers.mode.isActive = true) : s.advertised ≤ s.denominator := by
  obtain shared | solo := Mode.isActive_iff.mp hm
  · rw [denominator_of_shared shared]; exact Nat.le_add_right ..
  · exact (denominator_of_isSolo solo).ge

end

/-! ## The share of a capacity -/

@[simp] theorem shareOf_zero (d : Nat) : shareOf 0 d = 0 := rfl

theorem shareOf_of_pos {c : Nat} (hc : 0 < c) (d : Nat) : shareOf c d = c * 65536 / d := if_neg hc.ne'

theorem shareOf_self {c : Nat} (hc : 0 < c) : shareOf c c = 65536 := by
  rw [shareOf_of_pos hc, Nat.mul_div_cancel_left _ hc]

/-- A capacity that its denominator counts takes no more than the whole. -/
theorem shareOf_le_whole {c d : Nat} (hcd : c ≤ d) : shareOf c d ≤ 65536 := by
  obtain rfl | hc := c.eq_zero_or_pos
  · simp
  · rw [shareOf_of_pos hc]
    exact Nat.div_le_of_le_mul (Nat.mul_le_mul_right 65536 hcd)

/-- Settles O28. In SOLO the denominator is the own capacity, so the share is the whole; in SHARED it counts the own capacity
beside the others', so the share is at most the whole. -/
theorem shareIsCapacityOverDenominator : Obligations.ShareIsCapacityOverDenominator := by
  intro s
  refine ⟨State.advertised_of_available, State.advertised_of_strained, State.advertised_of_not_available,
    State.denominator_of_shared, State.denominator_of_isSolo, ?noCapacity, ?capacity, ?solo, ?active⟩
  case noCapacity => intro hzero; simp [State.share, hzero]
  case capacity => exact fun hpos => shareOf_of_pos hpos _
  case solo =>
    intro hpos hsolo
    rw [State.share, State.denominator_of_isSolo hsolo, shareOf_self hpos]
  case active => exact fun hactive => shareOf_le_whole (State.advertised_le_denominator hactive)

end Sys2Proof.Machine
end

section
/-! The two timers of the Concentration Filter: a filter period that is carried (R150) or sampled (R151 to R153, R155), each
step of it as one equation of the filter, and the end of the low dwell (R155, R156). -/

namespace Sys2Proof.Machine

/-! ## The filter after each step of a period's end -/

/-- The period timer's next span has begun, and nothing else has changed (R147). -/
def reschedulePeriod (s : State) : State :=
  s.withFilter { s.filter with periodStart := reschedule s.filter.periodStart (s.cfg.filterPeriod * 1000) }

theorem reschedulePeriod_eq {s : State} {t0 : Time} (h : s.filter.periodStart = some t0) :
    reschedulePeriod s = s.withFilter { s.filter with
      periodStart := some (t0 + BitVec.ofNat 64 (s.cfg.filterPeriod * 1000)) } := by
  rw [reschedulePeriod, h]; rfl

theorem periodEnd_of_below {s : State} (h : s.filter.volume.toNat < s.cfg.vmin * 1000000) :
    periodEnd s = carryPeriod (reschedulePeriod s) := if_pos h

theorem periodEnd_of_reached {s : State} (h : s.cfg.vmin * 1000000 ≤ s.filter.volume.toNat) :
    periodEnd s = testDwell (testThrottle (takeSample (reschedulePeriod s))) := if_neg h.not_gt

/-- The unclamped sample of the period that ends (R151). -/
def State.unclampedSample (s : State) : Nat := rawSample s.filter.volume.toNat s.filter.delivered.toNat

/-- The average that the sample of the period that ends makes (R152). -/
def State.sampledAverage (s : State) : Nat := nextAverage s.filter.average (min s.unclampedSample 4000) s.cfg.filterShift

theorem takeSample_filter (s : State) :
    (takeSample s).filter = { s.filter with
      volume := 0, delivered := 0, sampledPeriods := s.filter.sampledPeriods + 1, consecutiveCarried := 0,
      lastSample := min s.unclampedSample 4000, lastClamped := decide (4000 < s.unclampedSample),
      average := s.sampledAverage } := rfl

@[simp] theorem reschedulePeriod_frame (s : State) :
    (reschedulePeriod s).clock = s.clock ∧ (reschedulePeriod s).cfg = s.cfg ∧ (reschedulePeriod s).pulse = s.pulse ∧
      (reschedulePeriod s).sensor = s.sensor ∧ (reschedulePeriod s).conv = s.conv ∧
      (reschedulePeriod s).tally = s.tally ∧ (reschedulePeriod s).peers = s.peers ∧
      (reschedulePeriod s).dose = s.dose ∧ (reschedulePeriod s).port = s.port := by
  simp [reschedulePeriod]

@[simp] theorem reschedulePeriod_reads (s : State) :
    (reschedulePeriod s).unclampedSample = s.unclampedSample ∧
      (reschedulePeriod s).sampledAverage = s.sampledAverage := ⟨rfl, rfl⟩

/-- The sum that R152 shifts back into the average, no lower than 0. -/
theorem nextAverage_eq_max (average sample shift : Nat) :
    (nextAverage average sample shift : Int) =
      max 0 ((average : Int) + ((sample : Int) * 256 - (average : Int)) / 2 ^ shift) := by
  rw [nextAverage, Int.toNat_eq_max, max_comm, Nat.cast_pow, Nat.cast_ofNat]

/-- THROTTLED holds from the release level on where it was set, and from the upper limit on where it was clear (R153). -/
theorem throttleNow_eq (s : State) :
    s.throttleNow = decide
      ((if s.filter.throttled then s.cfg.upperLimit - s.cfg.throttleHysteresis else s.cfg.upperLimit) * 256 ≤
        s.filter.average) := by
  cases marked : s.filter.throttled
  case false => simp [State.throttleNow, marked]
  case true => simp [State.throttleNow, marked, ← decide_not]

theorem testThrottle_filter (s : State) : (testThrottle s).filter = { s.filter with throttled := s.throttleNow } := by
  simp [testThrottle]

theorem testDwell_filter_of_below {s : State} (h : s.filter.average < s.cfg.lowerLimit * 256) :
    (testDwell s).filter =
      { s.filter with dwell := if s.filter.dwell = .stopped then .running s.clock else s.filter.dwell } := by
  unfold testDwell
  rw [if_pos h]
  split <;> rfl

theorem testDwell_filter_of_reached {s : State} (h : s.cfg.lowerLimit * 256 ≤ s.filter.average) :
    (testDwell s).filter = { s.filter with dwell := .stopped, concLow := false } := by
  simp [testDwell, h.not_gt]

/-- The low-dwell test writes the filter's timer and its mark of CONC LOW alone (R155, R156). -/
theorem testDwell_filter_frame (s : State) :
    (testDwell s).filter.periodStart = s.filter.periodStart ∧ (testDwell s).filter.volume = s.filter.volume ∧
      (testDwell s).filter.delivered = s.filter.delivered ∧ (testDwell s).filter.average = s.filter.average ∧
      (testDwell s).filter.lastSample = s.filter.lastSample ∧ (testDwell s).filter.lastClamped = s.filter.lastClamped ∧
      (testDwell s).filter.sampledPeriods = s.filter.sampledPeriods ∧
      (testDwell s).filter.carriedPeriods = s.filter.carriedPeriods ∧
      (testDwell s).filter.consecutiveCarried = s.filter.consecutiveCarried ∧
      (testDwell s).filter.throttled = s.filter.throttled := by
  obtain below | reached := Nat.lt_or_ge s.filter.average (s.cfg.lowerLimit * 256)
  · simp [testDwell_filter_of_below below]
  · simp [testDwell_filter_of_reached reached]

theorem testDwell_concLow_of_reached {s : State} (h : s.cfg.lowerLimit * 256 ≤ s.filter.average) :
    (testDwell s).isTrue .concLow = false := by
  simp [testDwell, h.not_gt, setLevel_isTrue]

/-! ## The commands -/

/-- PERIOD_TIMER_EXPIRY at a period timer that has run its period (R147, R150). -/
theorem exec_periodTimerExpiry_due {s : State} {t0 : Time} (h0 : s.filter.periodStart = some t0)
    (hdue : s.cfg.filterPeriod * 1000 ≤ (s.clock - t0).toNat) :
    exec .periodTimerExpiry s = .next (startIfChanged s (periodEnd s)) := by
  have due : s.periodDue = true := by rw [State.periodDue, h0]; exact decide_eq_true hdue
  exact if_pos due

/-- A carried period changes no input of the start conditions, so no stroke starts at it. -/
theorem startIfChanged_carryPeriod (s : State) :
    startIfChanged s (carryPeriod (reschedulePeriod s)) = carryPeriod (reschedulePeriod s) :=
  startIfChanged_same s _ rfl

/-- LOW_DWELL_EXPIRY at a timer that has run the low dwell (R155). -/
theorem exec_lowDwellExpiry_due {s : State} {t0 : Time} (h0 : s.filter.dwell = .running t0)
    (hdue : s.cfg.lowDwell * 60000 ≤ (s.clock - t0).toNat) :
    exec .lowDwellExpiry s =
      .next (setLevel .concLow true (s.withFilter { s.filter with dwell := .expired, concLow := true })) := by
  have due : s.dwellDue = true := by rw [State.dwellDue, h0]; exact decide_eq_true hdue
  exact if_pos due

/-- The report of a level condition changes the Alarm Unit alone (R189). -/
theorem setLevel_eq_withAlarm (c : Cond) (v : Bool) (s : State) :
    setLevel c v s = s.withAlarm (setLevel c v s).alarm := by
  unfold setLevel
  (repeat' split) <;> rfl

/-- Settles O55. A carried period is one write of the filter, with no input of a start changed. A sampled period takes the
sample, then tests THROTTLED and the low dwell against the new average; a start that THROTTLED lets follow touches the pump
alone. -/
theorem periodsAreCarriedOrSampled : Obligations.PeriodsAreCarriedOrSampled := by
  refine ⟨fun s t0 h0 hdue => ⟨fun below => ?carried, fun reached => ?sampled⟩, fun s t0 h0 hdue => ?dwell⟩
  case carried =>
    rw [exec_periodTimerExpiry_due h0 hdue, periodEnd_of_below below, startIfChanged_carryPeriod, reschedulePeriod_eq h0]
    rfl
  case sampled =>
    refine ⟨_, s.unclampedSample, s.sampledAverage, exec_periodTimerExpiry_due h0 hdue, rfl, nextAverage_eq_max .., ?_⟩
    have period : (reschedulePeriod s).filter = { s.filter with
        periodStart := some (t0 + BitVec.ofNat 64 (s.cfg.filterPeriod * 1000)) } := by
      rw [reschedulePeriod_eq h0, State.withFilter_filter]
    simp only [periodEnd_of_reached reached, startIfChanged_frame, startIfChanged_reads, testDwell_frame,
      testDwell_filter_frame, testThrottle_frame, testThrottle_filter, takeSample_frame, takeSample_filter,
      reschedulePeriod_frame, reschedulePeriod_reads, period, true_and, and_true]
    refine ⟨fun clear => ?clear, fun throttled => ?throttled, fun low => ?low, fun high => ⟨?stops, ?falls⟩⟩
    case clear => simp [throttleNow_eq, takeSample_filter, period, clear]
    case throttled => simp [throttleNow_eq, takeSample_filter, period, throttled]
    case low => simp [testDwell_filter_of_below, testThrottle_filter, takeSample_filter, period, low]
    case stops => simp [testDwell_filter_of_reached, testThrottle_filter, takeSample_filter, period, high]
    case falls => simp [testDwell_concLow_of_reached, testThrottle_filter, takeSample_filter, period, high]
  case dwell =>
    refine ⟨_, exec_lowDwellExpiry_due h0 hdue, ?isTrue, ?isLatched, setLevel_eq_withAlarm ..⟩
    case isTrue => simp [setLevel_isTrue]
    case isLatched => intro clear; simp [setLevel_isLatched, clear]

end Sys2Proof.Machine
end

section
/-! Which parts of the state each command can move (95_what_each_step_holds.md), as one table; that the commands move no
other part; and the statements on the whole node that follow from the table. -/

namespace Sys2Proof.Machine

/-! ## The table -/

/-- The parts of the state that the rules of the commands tell apart. -/
inductive Part where
  | outside | cfg | pulse | sensor | conv | tally | peers | dose | debits | pump | filter | current | header | timer | ring
  | cursor | alarm | port

/-- A part stands in `t` as in `s`. -/
def Part.same : Part → State → State → Prop
  | .outside, s, t => t.clock = s.clock ∧ t.nodeStraps = s.nodeStraps ∧ t.addressOffset = s.addressOffset ∧
      t.pending = s.pending ∧ t.choices = s.choices
  | .cfg, s, t => t.cfg = s.cfg
  | .pulse, s, t => t.pulse = s.pulse
  | .sensor, s, t => t.sensor = s.sensor
  | .conv, s, t => t.conv = s.conv
  | .tally, s, t => t.tally = s.tally
  | .peers, s, t => t.peers = s.peers
  | .dose, s, t => t.dose = s.dose
  | .debits, s, t => t.dose.delivered = s.dose.delivered ∧ t.dose.excess = s.dose.excess ∧ t.dose.debited = s.dose.debited
  | .pump, s, t => t.pump = s.pump
  | .filter, s, t => t.filter = s.filter
  | .current, s, t => t.store.current = s.store.current
  | .header, s, t => t.store.header = s.store.header
  | .timer, s, t => t.store.timerStart = s.store.timerStart
  | .ring, s, t => t.store.ring = s.store.ring ∧ t.store.nextSequence = s.store.nextSequence
  | .cursor, s, t => t.store.cursor = s.store.cursor
  | .alarm, s, t => t.alarm = s.alarm
  | .port, s, t => t.port = s.port

/-- The parts that the rule of a command names. -/
def movedParts : Instr → List Part
  | .coldReset .. => [.outside, .cfg, .pulse, .sensor, .conv, .tally, .peers, .dose, .debits, .pump, .filter, .current,
      .header, .timer, .ring, .cursor, .alarm, .port]
  | .pulseEdge (.low .confirmation) => [.pump]
  | .pulseEdge _ => [.pulse]
  | .cycleTimerExpiry => [.pulse, .sensor, .conv, .dose, .pump, .filter, .current, .header, .alarm]
  | .busReleased | .busHeld | .stretchNotice _ | .stretchAbort | .addressNack _ | .transactionEnd _ _
  | .recoveryEnd => [.sensor]
  | .receiverSynced | .lineIdle | .holdoffEnd | .deferral => [.tally]
  | .tallyTimerExpiry | .collision => [.tally, .alarm]
  | .frameEnd _ _ _ => [.tally, .peers, .dose, .pump, .filter, .current, .header, .alarm]
  | .frameSent => [.tally, .peers, .dose, .pump, .current, .alarm]
  | .peerExpiry _ | .unheard => [.peers, .dose, .pump, .current, .alarm]
  | .strokeStart | .fillEnd | .recoverEnd | .historyEntryLeaves | .spacingRunsOut => [.pump]
  | .driveEnd | .confirmationPulse => [.dose, .debits, .pump, .filter, .current, .alarm]
  | .confirmWindowExpiry => [.dose, .pump, .current, .alarm]
  | .periodTimerExpiry => [.pump, .filter, .current, .alarm]
  | .lowDwellExpiry => [.filter, .alarm]
  | .intervalTimerExpiry => [.current, .timer, .ring]
  | .status | .totals | .peer _ | .record _ | .config _ | .configWrite _ _ _ | .unrecognisedSelector
  | .transactionAbandoned | .unknown _ | .commandSelector | .writeEndedPartWay => [.port]
  | .nextRecord => [.cursor, .port]
  | .start => [.cfg, .pulse, .sensor, .conv, .tally, .peers, .pump, .filter, .current, .timer, .alarm, .port]
  | .hold => [.dose, .pump, .current, .alarm, .port]
  | .resume | .pumpReset => [.pump, .alarm, .port]
  | .leave => [.tally, .peers, .dose, .pump, .current, .alarm, .port]
  | .join => [.peers, .pump, .current, .alarm, .port]
  | .mark => [.current, .ring, .port]
  | .clearLatches => [.alarm, .port]

/-- Every part that the command's rule does not name stands as before. -/
def Keeps (i : Instr) (s t : State) : Prop := ∀ b : Part, b ∉ movedParts i → b.same s t

/-! ## The commands move no other part -/

/-- A condition of the pump that is neither AVAILABLE nor FAULT leaves no mark in the open interval when it is taken. -/
theorem setCondition_store_of_quiet {c : PumpCondition} {s : State} (hf : c ≠ .fault) (ha : c ≠ .available) :
    (setCondition c s).store = s.store := by
  have fault : (c == .fault) = false := by simpa using hf
  have available : (c == .available) = false := by simpa using ha
  simp [setCondition, reportPump, setLevelFlag, setFlagIf, fault, available]

@[simp] theorem enterPriming_store (s : State) : (enterPriming s).store = s.store := by
  simp [enterPriming, setCondition_store_of_quiet]

@[simp] theorem openInterval_ring (s : State) :
    (openInterval s).store.ring = s.store.ring ∧ (openInterval s).store.nextSequence = s.store.nextSequence := by
  simp [openInterval]

@[simp] theorem startNode_store (s : State) :
    (startNode s).store.header = s.store.header ∧ (startNode s).store.ring = s.store.ring ∧
      (startNode s).store.nextSequence = s.store.nextSequence ∧ (startNode s).store.cursor = s.store.cursor := by
  simp [startNode, startIntervals]

/-- `Keeps`, part by part. -/
theorem keeps_iff (i : Instr) (s t : State) : Keeps i s t ↔
    (Part.outside ∉ movedParts i → Part.outside.same s t) ∧ (Part.pulse ∉ movedParts i → t.pulse = s.pulse) ∧
      (Part.sensor ∉ movedParts i → t.sensor = s.sensor) ∧ (Part.conv ∉ movedParts i → t.conv = s.conv) ∧
      (Part.tally ∉ movedParts i → t.tally = s.tally) ∧ (Part.peers ∉ movedParts i → t.peers = s.peers) ∧
      (Part.dose ∉ movedParts i → t.dose = s.dose) ∧ (Part.debits ∉ movedParts i → Part.debits.same s t) ∧
      (Part.pump ∉ movedParts i → t.pump = s.pump) ∧ (Part.filter ∉ movedParts i → t.filter = s.filter) ∧
      (Part.current ∉ movedParts i → t.store.current = s.store.current) ∧
      (Part.header ∉ movedParts i → t.store.header = s.store.header) ∧
      (Part.timer ∉ movedParts i → t.store.timerStart = s.store.timerStart) ∧
      (Part.ring ∉ movedParts i → Part.ring.same s t) ∧
      (Part.cursor ∉ movedParts i → t.store.cursor = s.store.cursor) ∧
      (Part.alarm ∉ movedParts i → t.alarm = s.alarm) ∧ (Part.port ∉ movedParts i → t.port = s.port) ∧
      (Part.cfg ∉ movedParts i → t.cfg = s.cfg) := by
  constructor
  · intro h
    exact ⟨h _, h _, h _, h _, h _, h _, h _, h _, h _, h _, h _, h _, h _, h _, h _, h _, h _, h _⟩
  · rintro ⟨h1, h2, h3, h4, h5, h6, h7, h8, h9, h10, h11, h12, h13, h14, h15, h16, h17, h18⟩ b
    cases b <;> assumption

/-! ### The meter, the values and the cycle end -/

theorem execPulseEdge_keeps (change : LevelChange) (s : State) :
    ∃ t, execPulseEdge change s = .next t ∧ Keeps (.pulseEdge change) s t := by
  unfold execPulseEdge
  split
  case h_1 | h_2 => split <;> simp [keeps_iff, movedParts, Part.same]
  all_goals simp [keeps_iff, movedParts, Part.same]

theorem execCycleTimerExpiry_keeps (s : State) : ∃ t, execCycleTimerExpiry s = .next t ∧ Keeps .cycleTimerExpiry s t := by
  unfold execCycleTimerExpiry
  split <;> simp [keeps_iff, movedParts, Part.same]

/-! ### The sensor bus -/

theorem execBusReleased_keeps (s : State) : ∃ t, execBusReleased s = .next t ∧ Keeps .busReleased s t := by
  simp only [execBusReleased]
  (repeat' split) <;> simp [keeps_iff, movedParts, Part.same]

theorem execBusHeld_keeps (s : State) : ∃ t, execBusHeld s = .next t ∧ Keeps .busHeld s t := by
  unfold execBusHeld
  (repeat' split) <;> simp [keeps_iff, movedParts, Part.same]

theorem execStretchAbort_keeps (s : State) : ∃ t, execStretchAbort s = .next t ∧ Keeps .stretchAbort s t := by
  unfold execStretchAbort
  (repeat' split) <;> simp [keeps_iff, movedParts, Part.same]

theorem execRecoveryEnd_keeps (s : State) : ∃ t, execRecoveryEnd s = .next t ∧ Keeps .recoveryEnd s t := by
  unfold execRecoveryEnd
  (repeat' split) <;> simp [keeps_iff, movedParts, Part.same]

theorem execStretchNotice_keeps (phase : TransferPhase) (s : State) :
    ∃ t, execStretchNotice phase s = .next t ∧ Keeps (.stretchNotice phase) s t := by
  simp only [execStretchNotice]
  (repeat' split) <;> simp [keeps_iff, movedParts, Part.same]

theorem execAddressNack_keeps (byte : NackByte) (s : State) :
    ∃ t, execAddressNack byte s = .next t ∧ Keeps (.addressNack byte) s t := by
  unfold execAddressNack
  (repeat' split) <;> simp [keeps_iff, movedParts, Part.same]

theorem execTransactionEnd_keeps (value : BitVec 24) (status : Byte) (s : State) :
    ∃ t, execTransactionEnd value status s = .next t ∧ Keeps (.transactionEnd value status) s t := by
  unfold execTransactionEnd
  (repeat' split) <;> simp [keeps_iff, movedParts, Part.same]

/-! ### The tally line and the Peer Table -/

theorem execReceiverSynced_keeps (s : State) : ∃ t, execReceiverSynced s = .next t ∧ Keeps .receiverSynced s t := by
  unfold execReceiverSynced
  split <;> simp [keeps_iff, movedParts, Part.same]

theorem execLineIdle_keeps (s : State) : ∃ t, execLineIdle s = .next t ∧ Keeps .lineIdle s t := by
  unfold execLineIdle
  split <;> simp [keeps_iff, movedParts, Part.same]

theorem execHoldoffEnd_keeps (s : State) : ∃ t, execHoldoffEnd s = .next t ∧ Keeps .holdoffEnd s t := by
  unfold execHoldoffEnd
  split <;> simp [keeps_iff, movedParts, Part.same]

theorem execUnheard_keeps (s : State) : ∃ t, execUnheard s = .next t ∧ Keeps .unheard s t := by
  unfold execUnheard
  split <;> simp [keeps_iff, movedParts, Part.same]

theorem execTallyTimerExpiry_keeps (s : State) : ∃ t, execTallyTimerExpiry s = .next t ∧ Keeps .tallyTimerExpiry s t := by
  simp only [execTallyTimerExpiry]
  (repeat' split) <;> simp [keeps_iff, movedParts, Part.same]

theorem execDeferral_keeps (s : State) : ∃ t, execDeferral s = .next t ∧ Keeps .deferral s t := by
  simp only [execDeferral]
  (repeat' split) <;> simp [keeps_iff, movedParts, Part.same]

theorem execCollision_keeps (s : State) : ∃ t, execCollision s = .next t ∧ Keeps .collision s t := by
  simp only [execCollision]
  (repeat' split) <;> simp [keeps_iff, movedParts, Part.same]

theorem execFrameSent_keeps (s : State) : ∃ t, execFrameSent s = .next t ∧ Keeps .frameSent s t := by
  simp only [execFrameSent]
  (repeat' split) <;> simp [keeps_iff, movedParts, Part.same]

theorem execFrameEnd_keeps (bytes : List Byte) (framingError overLong : Bool) (s : State) :
    ∃ t, execFrameEnd bytes framingError overLong s = .next t ∧ Keeps (.frameEnd bytes framingError overLong) s t := by
  simp only [execFrameEnd]
  (repeat' split) <;> simp [keeps_iff, movedParts, Part.same]

theorem execPeerExpiry_keeps (node : Nat) (s : State) :
    ∃ t, execPeerExpiry node s = .next t ∧ Keeps (.peerExpiry node) s t := by
  unfold execPeerExpiry
  (repeat' split) <;> simp [keeps_iff, movedParts, Part.same]

/-! ### The pump -/

theorem execStrokeStart_keeps (s : State) : ∃ t, execStrokeStart s = .next t ∧ Keeps .strokeStart s t := by
  simp [execStrokeStart, keeps_iff, movedParts, Part.same]

theorem execSpacingRunsOut_keeps (s : State) : ∃ t, execSpacingRunsOut s = .next t ∧ Keeps .spacingRunsOut s t := by
  simp [execSpacingRunsOut, keeps_iff, movedParts, Part.same]

theorem execFillEnd_keeps (s : State) : ∃ t, execFillEnd s = .next t ∧ Keeps .fillEnd s t := by
  unfold execFillEnd
  split <;> simp [keeps_iff, movedParts, Part.same]

theorem execConfirmWindowExpiry_keeps (s : State) :
    ∃ t, execConfirmWindowExpiry s = .next t ∧ Keeps .confirmWindowExpiry s t := by
  unfold execConfirmWindowExpiry
  split <;> simp [keeps_iff, movedParts, Part.same]

theorem execRecoverEnd_keeps (s : State) : ∃ t, execRecoverEnd s = .next t ∧ Keeps .recoverEnd s t := by
  unfold execRecoverEnd
  split <;> simp [keeps_iff, movedParts, Part.same]

theorem execHistoryEntryLeaves_keeps (s : State) :
    ∃ t, execHistoryEntryLeaves s = .next t ∧ Keeps .historyEntryLeaves s t := by
  unfold execHistoryEntryLeaves
  split <;> simp [keeps_iff, movedParts, Part.same]

theorem execDriveEnd_keeps (s : State) : ∃ t, execDriveEnd s = .next t ∧ Keeps .driveEnd s t := by
  simp only [execDriveEnd]
  (repeat' split) <;> simp [keeps_iff, movedParts, Part.same]

theorem execConfirmationPulse_keeps (s : State) : ∃ t, execConfirmationPulse s = .next t ∧ Keeps .confirmationPulse s t := by
  simp only [execConfirmationPulse]
  (repeat' split) <;> simp [keeps_iff, movedParts, Part.same]

/-! ### The filter and the intervals -/

theorem execPeriodTimerExpiry_keeps (s : State) : ∃ t, execPeriodTimerExpiry s = .next t ∧ Keeps .periodTimerExpiry s t := by
  unfold execPeriodTimerExpiry
  split <;> simp [keeps_iff, movedParts, Part.same]

theorem execLowDwellExpiry_keeps (s : State) : ∃ t, execLowDwellExpiry s = .next t ∧ Keeps .lowDwellExpiry s t := by
  unfold execLowDwellExpiry
  split <;> simp [keeps_iff, movedParts, Part.same]

theorem execIntervalTimerExpiry_keeps (s : State) :
    ∃ t, execIntervalTimerExpiry s = .next t ∧ Keeps .intervalTimerExpiry s t := by
  unfold execIntervalTimerExpiry
  split <;> simp [keeps_iff, movedParts, Part.same]

/-! ### The Supervisory Port -/

theorem execStatus_keeps (s : State) : ∃ t, execStatus s = .next t ∧ Keeps .status s t := by
  simp [execStatus, keeps_iff, movedParts, Part.same]

theorem execTotals_keeps (s : State) : ∃ t, execTotals s = .next t ∧ Keeps .totals s t := by
  simp [execTotals, keeps_iff, movedParts, Part.same]

theorem execNextRecord_keeps (s : State) : ∃ t, execNextRecord s = .next t ∧ Keeps .nextRecord s t := by
  simp [execNextRecord, keeps_iff, movedParts, Part.same]

theorem execUnrecognisedSelector_keeps (s : State) :
    ∃ t, execUnrecognisedSelector s = .next t ∧ Keeps .unrecognisedSelector s t := by
  simp [execUnrecognisedSelector, keeps_iff, movedParts, Part.same]

theorem execTransactionAbandoned_keeps (s : State) :
    ∃ t, execTransactionAbandoned s = .next t ∧ Keeps .transactionAbandoned s t := by
  simp [execTransactionAbandoned, keeps_iff, movedParts, Part.same]

theorem execWriteEndedPartWay_keeps (s : State) : ∃ t, execWriteEndedPartWay s = .next t ∧ Keeps .writeEndedPartWay s t := by
  simp [execWriteEndedPartWay, keeps_iff, movedParts, Part.same]

theorem execCommandSelector_keeps (s : State) : ∃ t, execCommandSelector s = .next t ∧ Keeps .commandSelector s t := by
  simp [execCommandSelector, keeps_iff, movedParts, Part.same]

theorem execClearLatches_keeps (s : State) : ∃ t, execClearLatches s = .next t ∧ Keeps .clearLatches s t := by
  simp [execClearLatches, keeps_iff, movedParts, Part.same]

theorem execPeer_keeps (node : Byte) (s : State) : ∃ t, execPeer node s = .next t ∧ Keeps (.peer node) s t := by
  unfold execPeer
  split <;> simp [keeps_iff, movedParts, Part.same]

theorem execRecord_keeps (sequence : BitVec 32) (s : State) :
    ∃ t, execRecord sequence s = .next t ∧ Keeps (.record sequence) s t := by
  simp [execRecord, keeps_iff, movedParts, Part.same]

theorem execConfig_keeps (offset : BitVec 16) (s : State) :
    ∃ t, execConfig offset s = .next t ∧ Keeps (.config offset) s t := by
  unfold execConfig
  split <;> simp [keeps_iff, movedParts, Part.same]

theorem execConfigWrite_keeps (offset : BitVec 16) (data : List Byte) (stopped : Bool) (s : State) :
    ∃ t, execConfigWrite offset data stopped s = .next t ∧ Keeps (.configWrite offset data stopped) s t := by
  simp only [execConfigWrite]
  (repeat' split) <;> simp [keeps_iff, movedParts, Part.same]

theorem execUnknown_keeps (code : Byte) (s : State) : ∃ t, execUnknown code s = .next t ∧ Keeps (.unknown code) s t := by
  unfold execUnknown
  split <;> simp [keeps_iff, movedParts, Part.same]

theorem execStart_keeps (s : State) : ∃ t, execStart s = .next t ∧ Keeps .start s t := by
  unfold execStart
  split <;> simp [keeps_iff, movedParts, Part.same]

theorem execHold_keeps (s : State) : ∃ t, execHold s = .next t ∧ Keeps .hold s t := by
  unfold execHold
  split <;> simp [keeps_iff, movedParts, Part.same]

theorem execResume_keeps (s : State) : ∃ t, execResume s = .next t ∧ Keeps .resume s t := by
  unfold execResume
  split <;> simp [keeps_iff, movedParts, Part.same]

theorem execPumpReset_keeps (s : State) : ∃ t, execPumpReset s = .next t ∧ Keeps .pumpReset s t := by
  unfold execPumpReset
  split <;> simp [keeps_iff, movedParts, Part.same]

theorem execLeave_keeps (s : State) : ∃ t, execLeave s = .next t ∧ Keeps .leave s t := by
  unfold execLeave
  split <;> simp [keeps_iff, movedParts, Part.same]

theorem execJoin_keeps (s : State) : ∃ t, execJoin s = .next t ∧ Keeps .join s t := by
  unfold execJoin
  split <;> simp [keeps_iff, movedParts, Part.same]

theorem execMark_keeps (s : State) : ∃ t, execMark s = .next t ∧ Keeps .mark s t := by
  unfold execMark
  split <;> simp [keeps_iff, movedParts, Part.same]

/-! ### Every command -/

/-- Every command answers a next state, in which no part moves that the command's rule does not name. -/
theorem exec_keeps (i : Instr) (s : State) : ∃ t, exec i s = .next t ∧ Keeps i s t := by
  cases i
  case coldReset => exact ⟨_, rfl, by simp [keeps_iff, movedParts]⟩
  case pulseEdge => exact execPulseEdge_keeps _ s
  case cycleTimerExpiry => exact execCycleTimerExpiry_keeps s
  case busReleased => exact execBusReleased_keeps s
  case busHeld => exact execBusHeld_keeps s
  case stretchAbort => exact execStretchAbort_keeps s
  case recoveryEnd => exact execRecoveryEnd_keeps s
  case stretchNotice => exact execStretchNotice_keeps _ s
  case addressNack => exact execAddressNack_keeps _ s
  case transactionEnd => exact execTransactionEnd_keeps _ _ s
  case receiverSynced => exact execReceiverSynced_keeps s
  case lineIdle => exact execLineIdle_keeps s
  case holdoffEnd => exact execHoldoffEnd_keeps s
  case unheard => exact execUnheard_keeps s
  case tallyTimerExpiry => exact execTallyTimerExpiry_keeps s
  case deferral => exact execDeferral_keeps s
  case collision => exact execCollision_keeps s
  case frameSent => exact execFrameSent_keeps s
  case frameEnd => exact execFrameEnd_keeps _ _ _ s
  case peerExpiry => exact execPeerExpiry_keeps _ s
  case strokeStart => exact execStrokeStart_keeps s
  case spacingRunsOut => exact execSpacingRunsOut_keeps s
  case fillEnd => exact execFillEnd_keeps s
  case confirmWindowExpiry => exact execConfirmWindowExpiry_keeps s
  case recoverEnd => exact execRecoverEnd_keeps s
  case historyEntryLeaves => exact execHistoryEntryLeaves_keeps s
  case driveEnd => exact execDriveEnd_keeps s
  case confirmationPulse => exact execConfirmationPulse_keeps s
  case periodTimerExpiry => exact execPeriodTimerExpiry_keeps s
  case lowDwellExpiry => exact execLowDwellExpiry_keeps s
  case intervalTimerExpiry => exact execIntervalTimerExpiry_keeps s
  case status => exact execStatus_keeps s
  case totals => exact execTotals_keeps s
  case nextRecord => exact execNextRecord_keeps s
  case unrecognisedSelector => exact execUnrecognisedSelector_keeps s
  case transactionAbandoned => exact execTransactionAbandoned_keeps s
  case writeEndedPartWay => exact execWriteEndedPartWay_keeps s
  case commandSelector => exact execCommandSelector_keeps s
  case clearLatches => exact execClearLatches_keeps s
  case peer => exact execPeer_keeps _ s
  case record => exact execRecord_keeps _ s
  case config => exact execConfig_keeps _ s
  case configWrite => exact execConfigWrite_keeps _ _ _ s
  case unknown => exact execUnknown_keeps _ s
  case start => exact execStart_keeps s
  case hold => exact execHold_keeps s
  case resume => exact execResume_keeps s
  case pumpReset => exact execPumpReset_keeps s
  case leave => exact execLeave_keeps s
  case join => exact execJoin_keeps s
  case mark => exact execMark_keeps s

theorem exec_same {i : Instr} {s t : State} (h : exec i s = .next t) (b : Part) (hb : b ∉ movedParts i) : b.same s t := by
  obtain ⟨u, hu, keeps⟩ := exec_keeps i s
  cases hu.symm.trans h
  exact keeps b hb

/-! ## The statements that follow -/

/-- Settles O4: every command's meaning answers, and only COLD_RESET names what stands outside the node. -/
theorem commandsNeverStopAndKeepTheClock : Obligations.CommandsNeverStopAndKeepTheClock := by
  intro i s noReset
  obtain ⟨t, h, keeps⟩ := exec_keeps i s
  refine ⟨t, h, keeps .outside ?_⟩
  cases i
  case coldReset n a x y z => exact absurd rfl (noReset n a x y z)
  case pulseEdge change => cases change with
    | high channel => simp [movedParts]
    | low input => cases input <;> simp [movedParts]
  all_goals simp [movedParts]

/-- Settles O10: the lists of the statement are those of the table, part by part. -/
theorem blocksMoveOnlyAtTheirOwnCommands : Obligations.BlocksMoveOnlyAtTheirOwnCommands := by
  intro i s t noReset h
  obtain ⟨-, blocks⟩ := (keeps_iff i s t).1 (exec_same h)
  cases i
  case coldReset n a x y z => exact absurd rfl (noReset n a x y z)
  case pulseEdge change =>
    cases change with
    | high channel => simpa [movedParts, Part.same] using blocks
    | low input => cases input <;> simpa [movedParts, Part.same] using blocks
  all_goals simpa [movedParts, Part.same] using blocks

end Sys2Proof.Machine
end

section
/-! A step on an empty queue and the list of the node's own due events: when each event is due, by its own timer; then the
values that a cold reset leaves. -/

namespace Sys2Proof.Machine

/-! ## When an event is due -/

theorem hasRun_iff (now : Time) (since : Option Time) (span : Nat) :
    hasRun now since span = true ↔ ∃ t, since = some t ∧ span ≤ (now - t).toNat := by
  cases since with
  | none => simp [hasRun]
  | some t => simp only [hasRun, decide_eq_true_eq, Option.some.injEq, exists_eq_left']; rfl

theorem phaseOver_iff (s : State) (p : StrokePhase) : s.phaseOver p = true ↔
    ∃ k, s.pump.stroke = some k ∧ k.phase = p ∧ s.cfg.phaseTime p ≤ (s.clock - k.phaseStart).toNat := by
  cases stroke : s.pump.stroke with
  | none => simp [State.phaseOver, stroke]
  | some k =>
    simp only [State.phaseOver, stroke, Bool.and_eq_true, beq_iff_eq, decide_eq_true_eq, Option.some.injEq,
      exists_eq_left']
    rfl

theorem peerDue_iff (s : State) (n : Nat) : s.peerDue n = true ↔
    ∃ f, (s.peers.entry n).status = .live f ∧ 4 * f.interval ≤ (s.clock - (s.peers.entry n).lastHeard).toNat := by
  cases status : (s.peers.entry n).status with
  | live f => simp only [State.peerDue, status, decide_eq_true_eq, EntryStatus.live.injEq, exists_eq_left']; rfl
  | absent | expired | left => simp [State.peerDue, status]

theorem dwellDue_iff (s : State) : s.dwellDue = true ↔
    ∃ t, s.filter.dwell = .running t ∧ s.cfg.lowDwell * 60000 ≤ (s.clock - t).toNat := by
  cases dwell : s.filter.dwell with
  | running t => simp only [State.dwellDue, dwell, decide_eq_true_eq, Dwell.running.injEq, exists_eq_left']; rfl
  | stopped | expired => simp [State.dwellDue, dwell]

theorem historyDue_iff (s : State) : s.historyDue = true ↔
    ∃ t rest, s.pump.history = t :: rest ∧ s.cfg.windowLength ≤ (s.clock - t).toNat := by
  unfold State.historyDue
  rw [hasRun_iff]
  cases s.pump.history <;> simp

/-! ## The list of the due events -/

@[simp] theorem mem_dueIf (c d : Instr) (v : Bool) : c ∈ dueIf v d ↔ v = true ∧ c = d := by
  cases v <;> simp [dueIf]

theorem mem_duePeers (s : State) (n : Nat) : n ∈ s.duePeers ↔ (1 ≤ n ∧ n ≤ 16) ∧ s.peerDue n = true := by
  simp [State.duePeers, List.mem_range'_1]
  omega

/-- Settles O3: each kind of event stands in the list under its own condition only. -/
theorem dueEventsAreThoseOfTheTimers : Obligations.DueEventsAreThoseOfTheTimers := by
  intro s
  refine ⟨?cycle, ?tally, ?period, ?interval, ?dwell, ?peer, ?fill, ?drive, ?confirm, ?recover, ?history, ?stroke⟩
  case cycle => simp [State.dueCommands, State.cycleDue, hasRun_iff]
  case tally => simp [State.dueCommands, State.tallyDue, hasRun_iff]
  case period => simp [State.dueCommands, State.periodDue, hasRun_iff]
  case interval => simp [State.dueCommands, State.intervalDue, hasRun_iff]
  case dwell => simp [State.dueCommands, dwellDue_iff]
  case peer => simp [State.dueCommands, mem_duePeers, peerDue_iff]
  case fill | drive | confirm | recover => simp [State.dueCommands, phaseOver_iff, Cfg.phaseTime]
  case history => simp [State.dueCommands, historyDue_iff]
  case stroke => simp [State.dueCommands]

/-! ## A step -/

/-- Settles O1, by the definition of a step. -/
theorem stepRunsFrontCommand : Obligations.StepRunsFrontCommand := fun _ _ _ => rfl

theorem chooseDue_mem (first : Instr) (rest : List Instr) (n : Nat) : chooseDue first rest n ∈ first :: rest := by
  have inside : Config.freeOrder n % (rest.length + 1) < (first :: rest).length := Nat.mod_lt _ (Nat.succ_pos _)
  rw [chooseDue, List.getD_eq_getElem _ _ inside]
  exact List.getElem_mem inside

theorem step_of_empty {s : State} (h : s.pending = []) : step s = idleStep s := by
  simp [step, h]

theorem idleStep_of_none_due {s : State} (h : s.dueCommands = []) : idleStep s = .next (tick s) := by
  simp [idleStep, h]

/-- On an empty queue with events due, one of them is taken; the count of choices alone may move with it. -/
theorem idleStep_of_due {s : State} (h : s.dueCommands ≠ []) :
    ∃ c ∈ s.dueCommands, ∃ n, idleStep s = exec c (s.withChoices n) := by
  unfold idleStep
  split
  case h_1 none_due => exact absurd none_due h
  case h_2 c one_due => exact ⟨c, by simp [one_due], s.choices, rfl⟩
  case h_3 c d rest due => exact ⟨_, by rw [due]; exact chooseDue_mem c (d :: rest) s.choices, s.choices + 1, rfl⟩

/-- Settles O2. -/
theorem idleTakesDueEventOrTicks : Obligations.IdleTakesDueEventOrTicks := by
  intro s empty
  rw [step_of_empty empty]
  exact ⟨idleStep_of_none_due, idleStep_of_due⟩

/-- A step is one millisecond of the clock, which passes only while no event is due, or one command on a state whose queue
and count of choices alone may differ. -/
theorem step_inversion {s t : State} (h : step s = .next t) :
    (s.dueCommands = [] ∧ t = tick s) ∨ ∃ i rest n, exec i ((s.withPending rest).withChoices n) = .next t := by
  cases queue : s.pending with
  | cons c rest =>
    refine .inr ⟨c, rest, s.choices, ?_⟩
    rw [← h]
    simp only [step, queue]
    rfl
  | nil =>
    rw [step_of_empty queue] at h
    by_cases due : s.dueCommands = []
    · rw [idleStep_of_none_due due] at h
      cases h
      exact .inl ⟨due, rfl⟩
    · obtain ⟨c, -, n, hc⟩ := idleStep_of_due due
      exact .inr ⟨c, s.pending, n, hc.symm.trans h⟩

/-! ## The cold reset -/

theorem entry_of_absent (n : Nat) : PeerTable.reset.entry n = Entry.absent := by
  simp only [PeerTable.entry, PeerTable.reset, List.getD_eq_getElem?_getD, List.getElem?_getD_replicate_default_eq]

/-- The STATUS snapshot shows neither the selector in force nor a snapshot latched before, and nothing of the queue. -/
theorem statusBytes_latch (sel : Selector) (b : List Byte) (queue : List Instr) (n : Nat) (s : State) :
    statusBytes (((latch sel b s).withPending queue).withChoices n) = statusBytes s := rfl

/-- Settles O5: the reset state is written out in `State.coldReset`, and the STATUS snapshot reads no part of the port that
it replaces. -/
theorem coldResetLeavesTheResetValues : Obligations.ColdResetLeavesTheResetValues := by
  intro n a x y z s
  refine ⟨_, rfl, rfl, rfl, rfl, rfl, ?transmitters, rfl, rfl, rfl, rfl, rfl, rfl, rfl, rfl, rfl, rfl, rfl, rfl, rfl,
    rfl, rfl, rfl, rfl, rfl, rfl, rfl, rfl, rfl, rfl, rfl, entry_of_absent, rfl, rfl, rfl, rfl, rfl, rfl, rfl, rfl,
    (statusBytes_latch _ _ _ _ _).symm, rfl, rfl, rfl⟩
  case transmitters =>
    intro q
    cases q <;> exact ⟨rfl, rfl, rfl, rfl, rfl, rfl, rfl, rfl, rfl, rfl, rfl⟩

/-- Settles O26, condition by condition. -/
theorem resetMeetsEveryInvariant : Obligations.ResetMeetsEveryInvariant := by
  refine ⟨?cold, ?running, ⟨rfl, rfl⟩, Nat.zero_le _, ⟨by decide, by decide, by decide⟩, Nat.zero_le _,
    ⟨Nat.le_refl _, nofun⟩, ⟨by decide, by decide⟩, ⟨by decide, nofun⟩, ⟨rfl, rfl⟩, ?conditions, ?transmitter,
    ⟨rfl, rfl⟩, ?limits, .inl rfl, ?timers⟩
  case cold =>
    intro _
    exact ⟨rfl, rfl, by decide, rfl, rfl, rfl, rfl, rfl, rfl, rfl, rfl, by decide, rfl⟩
  case running => exact fun started => absurd rfl started
  case conditions => exact ⟨by decide, by decide, by decide, by decide, by decide, by decide, by decide, by decide⟩
  case transmitter => exact ⟨by decide, by decide, by decide, by decide⟩
  case limits =>
    intro q
    cases q <;> exact ⟨by decide, nofun, by decide, by decide⟩
  case timers =>
    refine ⟨nofun, nofun, nofun, nofun, nofun, ?peers, nofun, ?bus, by decide, .nil, nofun⟩
    case peers =>
      intro n f _ _ live
      have absent : (State.reset.peers.entry n) = Entry.absent := entry_of_absent n
      rw [absent] at live
      cases live
    case bus =>
      intro q active
      cases active

end Sys2Proof.Machine
end

section
/-! Commands whose whole effect is one equation: edges and levels (R4 to R6, R12), the phases of a sensor transaction
(R19 to R26), the line events (R51, R52, R59) and frames that are not taken (R52, R53, R55). -/

namespace Sys2Proof.Machine

/-! ## Edges -/

/-- Settles O31, form by form. -/
theorem pulseEdgesAreCounted : Obligations.PulseEdgesAreCounted := by
  intro s
  refine ⟨rfl, rfl, rfl, ?standsA, ?standsB, ?config, ?runningA, ?risesB⟩
  case standsA => intro high; simp [exec, execPulseEdge, high]
  case standsB => intro high; simp [exec, execPulseEdge, high]
  case config =>
    intro low before
    exact ⟨fun below => by simp [exec, execPulseEdge, low, countA, before, preStartLimit, below],
      fun full => by simp [exec, execPulseEdge, low, countA, before, preStartLimit, full]⟩
  case runningA =>
    intro low started
    exact ⟨fun below => by simp [exec, execPulseEdge, low, countA, started, countLimit, below],
      fun full => by simp [exec, execPulseEdge, low, countA, started, countLimit, full]⟩
  case risesB =>
    intro low
    refine ⟨fun discarded => ?_, fun started fitted below => ?_, fun started fitted full => ?_⟩
    · obtain before | unfitted := discarded
      · simp [exec, execPulseEdge, low, countB, before]
      · simp [exec, execPulseEdge, low, countB, unfitted]
    · simp [exec, execPulseEdge, low, countB, started, fitted, countLimit, below]
    · simp [exec, execPulseEdge, low, countB, started, fitted, countLimit, full]

/-! ## The running transaction of the sensor bus -/

@[simp] theorem SensorBus.set_of (b : SensorBus) (q : Quantity) (t : Transmitter) : (b.set q t).of q = t := by
  cases q <;> rfl

@[simp] theorem SensorBus.set_set (b : SensorBus) (q : Quantity) (t u : Transmitter) :
    (b.set q t).set q u = b.set q u := by cases q <;> rfl

theorem recordFailure_eq (q : Quantity) (cause : FailCause) (s : State) : recordFailure q cause s =
    s.withSensor (s.sensor.set q
      { s.sensor.of q with failures := (s.sensor.of q).failures + 1, lastCause := cause }) := rfl

theorem enterRecovery_eq (q : Quantity) (cause : FailCause) (s : State) : enterRecovery q cause s =
    s.withSensor (s.sensor.set q
      { s.sensor.of q with
        phase := .recovery, failures := (s.sensor.of q).failures + 1, lastCause := cause }) := by
  simp [enterRecovery, recordFailure_eq, setTransmitter]

/-- A transaction that ends after its transmitter's state has become `x`. -/
theorem endTransaction_set (q : Quantity) (x : Transmitter) (s : State) :
    endTransaction q (s.withSensor (s.sensor.set q x)) = s.withSensor (s.sensor.ended s.clock q x) := by
  cases q <;> rfl

theorem SensorBus.set_self (b : SensorBus) (q : Quantity) : b.set q (b.of q) = b := by cases q <;> rfl

theorem endTransaction_eq (q : Quantity) (s : State) :
    endTransaction q s = s.withSensor (s.sensor.ended s.clock q (s.sensor.of q)) := by
  simpa [SensorBus.set_self] using endTransaction_set q (s.sensor.of q) s

theorem judgeBytes_of_invalid (q : Quantity) (v : BitVec 24) {st : Byte} (s : State) (h : st.getLsbD 0 = false) :
    judgeBytes q v st s = s.withSensor (s.sensor.set q
      { s.sensor.of q with
        lastRaw := v, failures := (s.sensor.of q).failures + 1, lastCause := .notValid }) := by
  simp only [judgeBytes, h, Bool.false_eq_true, if_false, recordFailure_eq, setTransmitter, State.withSensor_sensor,
    SensorBus.set_of, SensorBus.set_set, State.withSensor_withSensor]

theorem judgeBytes_of_valid (q : Quantity) (v : BitVec 24) {st : Byte} (s : State) (h : st.getLsbD 0 = true) :
    judgeBytes q v st s = s.withSensor (s.sensor.set q
      { s.sensor.of q with
        lastRaw := v, age := 0, sampled := true, good := (s.sensor.of q).good + 1,
        clamped := decide (v.toNat < s.cfg.clampLow q ∨ s.cfg.clampHigh q < v.toNat),
        lastGood := some (clampValue (s.cfg.clampLow q) (s.cfg.clampHigh q) v.toNat) }) := by
  simp only [judgeBytes, h, if_true, storeGood, setTransmitter, State.withSensor_sensor, State.withSensor_cfg,
    SensorBus.set_of, SensorBus.set_set, State.withSensor_withSensor, Bool.decide_or]
  rfl

/-- Settles O36. -/
theorem busChecksAndStretches : Obligations.BusChecksAndStretches := by
  intro s q x active hx
  refine ⟨?released, ?goesOn, ?held, ?notice, ?abort⟩
  case released =>
    intro check inTime
    have inTime : ¬50 < elapsed s.clock x.checkStart := Nat.not_lt.2 inTime
    simp [exec, execBusReleased, active, ← hx, check, inTime, TxnPhase.following, setTransmitter]
  case goesOn =>
    intro p next
    obtain ⟨at_, rfl⟩ | ⟨at_, rfl⟩ | ⟨at_, rfl⟩ | ⟨at_, rfl⟩ | ⟨at_, rfl⟩ := next <;>
      simp [exec, execBusReleased, active, ← hx, at_, TxnPhase.following, setTransmitter]
  case held =>
    intro check late
    have due : s.busHeldDue = true := by
      simp only [State.busHeldDue, active, ← hx, check, beq_self_eq_true, Bool.true_and, decide_eq_true_eq]
      exact late
    simp [exec, execBusHeld, active, due, enterRecovery_eq, ← hx]
  case notice =>
    intro p reaches
    simp [exec, execStretchNotice, active, ← hx, reaches, setTransmitter]
  case abort =>
    intro transfer
    simp [exec, execStretchAbort, active, ← hx, transfer, enterRecovery_eq]

/-- Settles O37. -/
theorem transactionsEnd : Obligations.TransactionsEnd := by
  intro s q x active hx
  refine ⟨?nack, ?recovery, ?invalid, ?valid⟩
  case nack =>
    intro b reaches
    cases b <;> simp [exec, execAddressNack, active, ← hx, reaches, recordFailure_eq, endTransaction_set, nackCause]
  case recovery =>
    intro phase
    simp [exec, execRecoveryEnd, active, ← hx, phase, endTransaction_eq]
  case invalid =>
    intro v st transfer invalid
    simp only [exec, execTransactionEnd, active, ← hx, transfer, if_true, judgeBytes_of_invalid q v s invalid,
      endTransaction_set]
  case valid =>
    rintro v st low high transfer valid rfl rfl
    simp only [exec, execTransactionEnd, active, ← hx, transfer, if_true, judgeBytes_of_valid q v s valid,
      endTransaction_set]
    rfl

/-! ## The line events -/

/-- Settles O38. -/
theorem lineEventsMoveTheTransmitter : Obligations.LineEventsMoveTheTransmitter := by
  intro s
  refine ⟨?synced, ?deferred, ?noneDeferred, ?holdoffEnd, ?deferral⟩
  case synced => intro syncing; simp [exec, execReceiverSynced, syncing]
  case deferred => intro waits; simp [exec, execLineIdle, waits, holdoffLength]
  case noneDeferred => intro none_waits; simp [exec, execLineIdle, none_waits]
  case holdoffEnd => intro waits idle; simp [exec, execHoldoffEnd, waits, idle]
  case deferral =>
    rintro own rfl
    exact ⟨fun waits => by simp [exec, execDeferral, waits], fun none_waits => by simp [exec, execDeferral, none_waits]⟩

/-! ## Frames that are not taken -/

theorem exec_frameEnd_bad {b : List Byte} {fe ol : Bool} {s : State} {cause : BadCause} (on : s.tally.receiver = .on)
    (notOwn : s.isOwnFrame b = false) (bad : judge b fe ol = .bad cause) :
    exec (.frameEnd b fe ol) s = .next (s.withTally
      { s.tally with lineIdle := true, ownOnLine := none, badReceived := s.tally.badReceived + 1, lastBad := cause }) := by
  simp [exec, execFrameEnd, on, notOwn, bad, badFrame]

/-- The checks of R53 up to the CRC. -/
theorem judge_of_framing (b : List Byte) (ol : Bool) : judge b true ol = .bad .framing := rfl

theorem judge_of_length {b : List Byte} {ol : Bool} (h : b.length < 3 ∨ ol = true) :
    judge b false ol = .bad .length := by simp [judge, h]

theorem judge_of_crc {b : List Byte} (long : 3 ≤ b.length)
    (crc : crc16 (b.take (b.length - 2)) ≠ BitVec.ofNat 16 (fieldAt b (b.length - 2) 2)) :
    judge b false false = .bad .crc := by simp [judge, crc, Nat.not_lt.2 long]

/-- The checks of R53 behind the CRC, in their order. -/
theorem judge_of_crc_good {b : List Byte} (long : 3 ≤ b.length)
    (crc : crc16 (b.take (b.length - 2)) = BitVec.ofNat 16 (fieldAt b (b.length - 2) 2)) :
    judge b false false =
      if byteAt b 1 ≠ 1 ∧ byteAt b 1 ≠ 2 then .bad .kind
      else if b.length ≠ frameLength (byteAt b 1) then .bad .length
      else if (byteAt b 0).toNat < 1 ∨ 16 < (byteAt b 0).toNat then .bad .node
      else if byteAt b 1 = 1 then
        if tallyFieldsGood b then .good (.tally (decodeTally b)) else .bad .field
      else .good (.leave (decodeLeave b)) := by
  simp only [judge, Bool.false_eq_true, if_false, Bool.or_false, decide_eq_true_eq, Nat.not_lt.2 long, crc, ne_eq,
    not_true_eq_false]

/-- Settles O42. -/
theorem badFramesAreOnlyCounted : Obligations.BadFramesAreOnlyCounted := by
  intro b fe ol s
  refine ⟨?off, ?own, ?bad⟩
  case off => intro off; simp [exec, execFrameEnd, off]
  case own =>
    intro f on sent known
    have own : s.isOwnFrame b = true := by
      obtain busy | sent_first := known
      · exact isOwnFrame_of_not_idle s f b sent busy
      · exact isOwnFrame_of_prefix s f b sent sent_first
    exact execFrameEnd_own b fe ol s on own
  case bad =>
    intro cause on notOwn fails
    apply exec_frameEnd_bad on notOwn
    obtain ⟨rfl, rfl⟩ | ⟨rfl, short, rfl⟩ | ⟨rfl, rfl, long, crc, rfl⟩ | ⟨rfl, rfl, long, crc, fails⟩ := fails
    · exact judge_of_framing b ol
    · exact judge_of_length short
    · exact judge_of_crc long crc
    · rw [judge_of_crc_good long crc]
      obtain ⟨h1, h2, rfl⟩ | ⟨tally, h, rfl⟩ | ⟨leave, h, rfl⟩ | ⟨kind, node, rfl⟩ | ⟨tally, len, low, high, field, rfl⟩ :=
        fails
      · exact if_pos ⟨h1, h2⟩
      · simp [tally, frameLength, h]
      · simp [leave, frameLength, h]
      · have node : (byteAt b 0).toNat < 1 ∨ 16 < (byteAt b 0).toNat := by omega
        obtain ⟨tally, len⟩ | ⟨leave, len⟩ := kind
        · simp only [tally, len, frameLength, node]; simp
        · simp only [leave, len, frameLength, node]; simp
      · have node : ¬((byteAt b 0).toNat < 1 ∨ 16 < (byteAt b 0).toNat) := by omega
        have fields : tallyFieldsGood b = false := by
          simp only [tallyFieldsGood, Bool.and_eq_false_iff, decide_eq_false_iff_not]
          omega
        simp only [tally, len, frameLength, node, fields]; simp

end Sys2Proof.Machine
end

section
/-! The start conditions and the phases of a stroke (R117, R124, R132 to R134), the stray pulses (R127), the writes of the
port (R174, R175, R178), START refused (R180) and the refused commands, the latches and the alarm lines (R183 to R192). -/

namespace Sys2Proof.Machine

/-! ## The start conditions -/

theorem spacingPassed_iff (s : State) : s.spacingPassed = true ↔
    ∀ u, s.pump.lastStart = some u →
      (if s.pump.condition = .priming ∨ s.pump.behind = true then s.cfg.minSpacing else s.cfg.pacedSpacing) ≤
        (s.clock - u).toNat := by
  cases last : s.pump.lastStart with
  | none => simp [State.spacingPassed, last]
  | some u =>
    simp only [State.spacingPassed, last, decide_eq_true_eq, Option.some.injEq, forall_eq']
    rfl

theorem strokeWanted_iff (s : State) : s.strokeWanted = true ↔
    (s.pump.condition = .available ∧ s.filter.throttled = false ∧ s.cfg.low * s.cfg.strokeMass ≤ s.dose.debt) ∨
      (s.pump.condition = .priming ∧ 0 < s.pump.primeRemaining) := by
  simp [State.strokeWanted, and_assoc]

theorem mayStart_iff (s : State) : s.mayStart = true ↔
    s.pump.stroke = none ∧ s.peers.mode.isActive = true ∧
      ((s.pump.condition = .available ∧ s.filter.throttled = false ∧ s.cfg.low * s.cfg.strokeMass ≤ s.dose.debt) ∨
        (s.pump.condition = .priming ∧ 0 < s.pump.primeRemaining)) ∧
      s.pump.history.length < s.cfg.windowCap ∧
      (∀ u, s.pump.lastStart = some u →
        (if s.pump.condition = .priming ∨ s.pump.behind = true then s.cfg.minSpacing else s.cfg.pacedSpacing) ≤
          (s.clock - u).toNat) := by
  rw [← strokeWanted_iff, ← spacingPassed_iff]
  simp [State.mayStart, and_assoc]

theorem testStart_eq (s : State) : testStart s = if s.mayStart then s.withPump (s.pump.begun s.clock) else s := by
  unfold testStart
  rw [beginStroke_eq]

/-- A command that ends the stroke in flight, or takes an entry from the history, changes an input of the start conditions,
so the test is made. -/
theorem startIfChanged_eq_of_changed {s t : State} (h : t.startInputs ≠ s.startInputs) :
    startIfChanged s t = if t.mayStart then t.withPump (t.pump.begun t.clock) else t := by
  rw [startIfChanged, if_neg h, testStart_eq]

/-! ## Phases -/

theorem phaseOver_of_stroke {s : State} {k : Stroke} {p : StrokePhase} (stroke : s.pump.stroke = some k)
    (phase : k.phase = p) (ranOut : s.cfg.phaseTime p ≤ (s.clock - k.phaseStart).toNat) : s.phaseOver p = true :=
  (phaseOver_iff s p).2 ⟨k, stroke, phase, ranOut⟩

theorem enterPhase_eq {s : State} {k : Stroke} (p : StrokePhase) (stroke : s.pump.stroke = some k) :
    enterPhase p s = s.withPump { s.pump with stroke := some { k with phase := p, phaseStart := s.clock } } := by
  simp [enterPhase, stroke]

/-- Settles O50. -/
theorem strokesStartAndMoveThroughTheirPhases : Obligations.StrokesStartAndMoveThroughTheirPhases := by
  intro s
  refine ⟨?quiet, ?outputs, mayStart_iff s, ?starts, ?withheld, ?fillEnd, ?driveEnd, ?recoverEnd, ?history⟩
  case quiet => intro none_; simp [State.fillOutput, State.driveOutput, State.bleedOutput, none_]
  case outputs => intro k stroke; simp [State.fillOutput, State.driveOutput, State.bleedOutput, stroke]
  case starts => intro may; simp [exec, execStrokeStart, execSpacingRunsOut, testStart_eq, may]
  case withheld => intro may; simp [exec, execStrokeStart, execSpacingRunsOut, testStart_eq, may]
  case fillEnd =>
    intro k stroke phase ranOut
    simp [exec, execFillEnd, phaseOver_of_stroke stroke phase ranOut, enterPhase_eq _ stroke]
  case driveEnd =>
    intro k stroke phase ranOut window
    simp only [exec, execDriveEnd, stroke, phaseOver_of_stroke stroke phase ranOut, if_true, window.ne', if_false,
      enterPhase_eq _ stroke]
    cases k.confirmed <;> rfl
  case recoverEnd =>
    rintro k u stroke phase ranOut rfl
    have changed : (s.withPump { s.pump with stroke := none }).startInputs ≠ s.startInputs := by
      simp [State.startInputs, stroke]
    simp only [exec, execRecoverEnd, phaseOver_of_stroke stroke phase ranOut, if_true,
      startIfChanged_eq_of_changed changed, State.withPump_clock]
  case history =>
    rintro h rest u history old rfl
    have due : s.historyDue = true := (historyDue_iff s).2 ⟨h, rest, history, old⟩
    have changed : (s.withPump { s.pump with history := rest }).startInputs ≠ s.startInputs := by
      simp [State.startInputs, history]
    simp only [exec, execHistoryEntryLeaves, due, if_true, history, List.tail_cons,
      startIfChanged_eq_of_changed changed, State.withPump_clock]

/-! ## Stray pulses -/

theorem startIfChanged_strayPulse (s : State) (x : Bool) :
    startIfChanged s (strayPulse (s.withPump { s.pump with level := x })) =
      s.withPump { s.pump with level := x, stray := s.pump.stray + 1 } :=
  startIfChanged_same _ _ rfl

/-- A pulse that finds no stroke waiting for it is a stray one. -/
theorem takePulse_of_stray {s : State}
    (h : ∀ k, s.pump.stroke = some k →
      k.phase = .fill ∨ k.phase = .recover ∨ k.confirmed = true ∨ s.cfg.confirmWindow = 0) :
    takePulse s = strayPulse s := by
  unfold takePulse
  split
  case h_1 k stroke =>
    by_cases waits : s.cfg.confirmWindow = 0 ∨ k.confirmed = true
    · exact if_pos waits
    · rw [if_neg waits]
      obtain ⟨window, unconfirmed⟩ := not_or.1 waits
      obtain phase | phase | confirmed | none_ := h k stroke
      · rw [phase]
      · rw [phase]
      · exact absurd confirmed unconfirmed
      · exact absurd none_ window
  case h_2 => rfl

/-- Settles O51. -/
theorem strayPulsesAreOnlyCounted : Obligations.StrayPulsesAreOnlyCounted := by
  intro s
  refine ⟨?stands, ?config, ?stray⟩
  case stands => intro high; simp [exec, execConfirmationPulse, high]
  case config => intro low before; simp [exec, execConfirmationPulse, low, before]
  case stray =>
    intro started low stray
    have confirms_nothing : ∀ k, s.pump.stroke = some k →
        k.phase = .fill ∨ k.phase = .recover ∨ k.confirmed = true ∨ s.cfg.confirmWindow = 0 := by
      intro k stroke
      obtain none_ | ⟨k', stroke', fill | recover | confirmed⟩ | window | ⟨-, none_⟩ := stray
      · cases stroke.symm.trans none_
      · cases stroke.symm.trans stroke'; exact .inl fill
      · cases stroke.symm.trans stroke'; exact .inr (.inl recover)
      · cases stroke.symm.trans stroke'; exact .inr (.inr (.inl confirmed))
      · exact .inr (.inr (.inr window))
      · cases stroke.symm.trans none_
    simp only [exec, execConfirmationPulse, low, Bool.false_eq_true, if_false, started,
      takePulse_of_stray (s := s.withPump { s.pump with level := true }) confirms_nothing, startIfChanged_strayPulse]

end Sys2Proof.Machine
end

section
/-! The Supervisory Port: START refused (R180), configuration writes and protocol errors (R174, R175, R178), refused and
unknown commands (R183, R184), the latches and the alarm lines (R191, R192). -/

namespace Sys2Proof.Machine

/-! ## START refused -/

theorem exec_start_of_refused {s : State} {r : CommandResult} {i : Nat} (h : s.startRefusal = some (r, i)) :
    exec .start s = .next (s.withPort (s.port.recorded s.clock 1 r i)) := by
  simp only [exec, execStart, h, recordCommand_eq, codeStart]

theorem firstFailing_eq_some {c : Cfg} {i : Nat} (low : 1 ≤ i) (high : i ≤ 60) (fails : checkField c i = false)
    (before : ∀ j, 1 ≤ j → j < i → checkField c j = true) : firstFailing c = some i := by
  rw [firstFailing, List.find?_range'_eq_some]
  refine ⟨by simp [fails], List.mem_range'_1.2 ⟨low, by omega⟩, fun j lowJ belowI => ?_⟩
  simp [before j lowJ belowI]

theorem firstFailing_eq_none {c : Cfg} (good : ∀ i, 1 ≤ i → i ≤ 60 → checkField c i = true) : firstFailing c = none := by
  rw [firstFailing, List.find?_eq_none]
  intro i hi
  obtain ⟨low, high⟩ := List.mem_range'_1.1 hi
  simp [good i low (by omega)]

theorem blockCrcGood_iff (block : List Byte) :
    blockCrcGood block = true ↔ crc16 (block.take 149) = BitVec.ofNat 16 (fieldAt block 149 2) := by
  simp [blockCrcGood]

/-- Settles O7, test by test. -/
theorem startRefusedChangesOnlyTheRecord : Obligations.StartRefusedChangesOnlyTheRecord := by
  intro s
  refine ⟨?started, ?absent, ?crc, ?field⟩
  case started => intro started; exact exec_start_of_refused (if_pos started)
  case absent =>
    intro before absent
    apply exec_start_of_refused
    simp [State.startRefusal, before, absent]
  case crc =>
    intro before written crc
    have bad : blockCrcGood s.port.block = false := by
      rw [← Bool.not_eq_true, blockCrcGood_iff]
      exact crc
    apply exec_start_of_refused
    simp [State.startRefusal, before, written, bad]
  case field =>
    intro i before written crc low high fails earlier
    have good : blockCrcGood s.port.block = true := (blockCrcGood_iff _).2 crc
    apply exec_start_of_refused
    simp [State.startRefusal, before, written, good, firstFailing_eq_some low high fails earlier]

/-! ## Configuration writes -/

@[simp] theorem storeBytes_length (block : List Byte) (o : Nat) (data : List Byte) :
    (storeBytes block o data).length = block.length := by
  induction data generalizing block o with
  | nil => rfl
  | cons d rest ih => simp [storeBytes, ih]

theorem storeBytes_getD {block : List Byte} {j : Nat} (hj : j < block.length) (o : Nat) (data : List Byte) :
    (storeBytes block o data).getD j 0 =
      if o ≤ j ∧ j < o + data.length then data.getD (j - o) 0 else block.getD j 0 := by
  induction data generalizing block o with
  | nil =>
    have outside : ¬(o ≤ j ∧ j < o + ([] : List Byte).length) := by simp
    rw [if_neg outside, storeBytes]
  | cons d rest ih =>
    rw [storeBytes, ih (by simpa using hj)]
    obtain below | rfl | above := Nat.lt_trichotomy j o
    · rw [if_neg (by omega), if_neg (by omega)]
      simp [below.ne']
    · rw [if_neg (by omega), if_pos ⟨Nat.le_refl _, by simp⟩]
      simp [hj]
    · have shift : j - o = (j - (o + 1)) + 1 := by omega
      have same : (o + 1 ≤ j ∧ j < o + 1 + rest.length) ↔ (o ≤ j ∧ j < o + (d :: rest).length) := by
        rw [List.length_cons]; omega
      rw [shift, List.getD_cons_succ]
      simp only [same, List.getD_eq_getElem?_getD, List.getElem?_set, above.ne, if_false]

/-- Settles O58. -/
theorem writesAndProtocolErrors : Obligations.WritesAndProtocolErrors := by
  rintro s o data p last rfl hlast
  refine ⟨?locked, ?stored, ?errors⟩
  case locked =>
    intro inside some_ locked stopped
    simp [exec, execConfigWrite, blockLength, inside, some_, locked, latch, configBytes, protocolError, recordLast, hlast,
      time32]
  case stored =>
    intro inside some_ unlocked whole
    refine ⟨storeBytes s.port.block o.toNat (data.take (151 - o.toNat)), by simp [whole], ?bytes, ?effect⟩
    case bytes =>
      intro j hj
      rw [storeBytes_getD (by omega)]
      have same : (o.toNat ≤ j ∧ j < o.toNat + (data.take (151 - o.toNat)).length) ↔
          (o.toNat ≤ j ∧ j < o.toNat + data.length) := by
        rw [List.length_take]; omega
      simp only [same]
      refine if_congr Iff.rfl ?_ rfl
      simp only [List.getD_eq_getElem?_getD, List.getElem?_take]
      rw [if_pos (by omega)]
    case effect =>
      intro stopped
      have beyond : (151 - o.toNat < data.length) ↔ 151 < o.toNat + data.length := by omega
      by_cases hb : 151 < o.toNat + data.length <;> cases stopped <;>
        simp [exec, execConfigWrite, blockLength, inside, some_, unlocked, latch, configBytes, protocolError, recordLast,
          hlast, time32, storeConfig, beyond, hb]
  case errors =>
    rintro i (rfl | rfl | rfl | ⟨n, rfl, range⟩ | ⟨w, rfl, range⟩ | ⟨w, d, b, rfl, range⟩)
    · rfl
    · rfl
    · rfl
    · have out : ¬(1 ≤ n.toNat ∧ n.toNat ≤ 16) := by omega
      exact if_neg out
    · exact if_neg (Nat.not_lt.2 range)
    · exact if_neg (Nat.not_lt.2 range)

/-! ## The alarm lines and the latches -/

theorem exists_cond_index {i : Nat} (h : i < 16) : ∃ c : Cond, c.index = i := by
  interval_cases i
  exacts [⟨.pressSubst, rfl⟩, ⟨.tempSubst, rfl⟩, ⟨.pulseMismatch, rfl⟩, ⟨.pulseOverrange, rfl⟩, ⟨.peerLost, rfl⟩,
    ⟨.peerImplausible, rfl⟩, ⟨.unheard, rfl⟩, ⟨.alone, rfl⟩, ⟨.duplicateNumber, rfl⟩, ⟨.linkFault, rfl⟩, ⟨.pumpFault, rfl⟩,
    ⟨.pumpStrained, rfl⟩, ⟨.throttled, rfl⟩, ⟨.concLow, rfl⟩, ⟨.undosed, rfl⟩, ⟨.debtReleased, rfl⟩]

theorem lineAsserted_iff (latches mask : BitVec 16) : lineAsserted latches mask = true ↔
    ∃ c : Cond, latches.getLsbD c.index = true ∧ mask.getLsbD c.index = true := by
  rw [lineAsserted, bne_iff_ne]
  constructor
  · intro some_
    by_contra none_
    refine some_ (BitVec.eq_of_getLsbD_eq fun i hi => ?_)
    obtain ⟨c, rfl⟩ := exists_cond_index hi
    have clear : ¬(latches.getLsbD c.index = true ∧ mask.getLsbD c.index = true) := fun both => none_ ⟨c, both⟩
    rw [BitVec.getLsbD_and]
    simpa using clear
  · rintro ⟨c, latched, marked⟩ none_
    have bit : (latches &&& mask).getLsbD c.index = true := by rw [BitVec.getLsbD_and, latched, marked]; rfl
    rw [none_] at bit
    simp at bit

theorem clearLatches_isLatched (c : Cond) (s : State) :
    (clearLatches s).isLatched c = (s.isLatched c && s.isTrue c && levelConditions.getLsbD c.index) := by
  simp only [clearLatches, State.isLatched, State.isTrue, State.withAlarm_alarm, BitVec.getLsbD_and, Bool.and_assoc]

/-- The commands that the state of the pump or the mode refuses. -/
theorem exec_of_refused {i : Instr} {code : Byte} {s : State}
    (h : i = .hold ∧ code = 2 ∧ (s.peers.mode = .config ∨ s.pump.condition = .unset ∨ s.pump.condition = .none ∨
        s.pump.condition = .held) ∨
      i = .resume ∧ code = 3 ∧ (s.peers.mode = .config ∨ s.pump.condition ≠ .held) ∨
      i = .pumpReset ∧ code = 4 ∧ (s.peers.mode = .config ∨ s.pump.condition ≠ .fault) ∨
      i = .leave ∧ code = 5 ∧ s.peers.mode.isActive = false ∨
      i = .join ∧ code = 6 ∧ s.peers.mode ≠ .parked ∨
      i = .mark ∧ code = 7 ∧ s.peers.mode = .config) : exec i s = .next (refuseState code s) := by
  obtain ⟨rfl, rfl, pump⟩ | ⟨rfl, rfl, pump⟩ | ⟨rfl, rfl, pump⟩ | ⟨rfl, rfl, mode⟩ | ⟨rfl, rfl, mode⟩ | ⟨rfl, rfl, mode⟩ := h
  · refine if_neg fun taken => ?_
    obtain config | unset | none_ | held := pump
    · exact taken.1 config
    · simp [unset, PumpCondition.mayHold] at taken
    · simp [none_, PumpCondition.mayHold] at taken
    · simp [held, PumpCondition.mayHold] at taken
  · exact if_neg fun ⟨started, held⟩ => pump.elim started fun notHeld => notHeld held
  · exact if_neg fun ⟨started, fault⟩ => pump.elim started fun notFault => notFault fault
  · exact if_neg (by simp [mode])
  · exact if_neg mode
  · exact if_neg (not_not.2 mode)

end Sys2Proof.Machine
end

section
/-! The bytes of frames, blocks and snapshots (R195 to R198): the number that a field of a layout holds, found by walking over
the parts that the layout appends; then the frames and the port transactions read back (R53, R174), the snapshots of the
selectors (R176, R186 to R188, R198), and the unknown command (R183). -/

namespace Sys2Proof.Machine

/-! ## Numbers in bytes -/

@[simp] theorem bigEndian_length (k n : Nat) : (bigEndian k n).length = k := by
  induction k with
  | zero => rfl
  | succ k ih => simp [bigEndian, ih]

theorem foldl_bigEndian (k n acc : Nat) :
    (bigEndian k n).foldl (fun m b => m * 256 + b.toNat) acc = acc * 256 ^ k + n % 256 ^ k := by
  induction k generalizing acc with
  | zero => simp [bigEndian, Nat.mod_one]
  | succ k ih =>
    have split : n % 256 ^ (k + 1) = n % 256 ^ k + 256 ^ k * (n / 256 ^ k % 256) := Nat.mod_pow_succ
    rw [bigEndian, List.foldl_cons, ih, BitVec.toNat_ofNat, split]
    ring

theorem fromBytes_bigEndian (k n : Nat) : fromBytes (bigEndian k n) = n % 256 ^ k := by
  rw [fromBytes, foldl_bigEndian, Nat.zero_mul, Nat.zero_add]

theorem fieldAt_bigEndian (k n : Nat) : fieldAt (bigEndian k n) 0 k = n % 256 ^ k := by
  rw [fieldAt, List.drop_zero, List.take_of_length_le (by simp), fromBytes_bigEndian]

theorem fieldAt_append_left {xs : List Byte} (ys : List Byte) {o w : Nat} (h : o + w ≤ xs.length) :
    fieldAt (xs ++ ys) o w = fieldAt xs o w := by
  have inside : w ≤ (xs.drop o).length := by rw [List.length_drop]; omega
  rw [fieldAt, fieldAt, List.drop_append_of_le_length (by omega), List.take_append_of_le_length inside]

theorem fieldAt_append_right (xs ys : List Byte) {o w : Nat} (h : xs.length ≤ o) :
    fieldAt (xs ++ ys) o w = fieldAt ys (o - xs.length) w := by
  rw [fieldAt, fieldAt, List.drop_append, List.drop_eq_nil_of_le h, List.nil_append]

theorem fieldAt_cons {x : Byte} (xs : List Byte) {o w : Nat} (h : 0 < o) :
    fieldAt (x :: xs) o w = fieldAt xs (o - 1) w := fieldAt_append_right [x] xs h

theorem fieldAt_byte (x : Byte) (xs : List Byte) : fieldAt (x :: xs) 0 1 = x.toNat := by
  simp [fieldAt, fromBytes]

/-- A number of a width that fits is read back from its bytes. -/
theorem fieldAt_bitVec {v : Nat} (k : Nat) (x : BitVec v) (h : 2 ^ v ≤ 256 ^ k) :
    fieldAt (bigEndian k x.toNat) 0 k = x.toNat := by
  rw [fieldAt_bigEndian, Nat.mod_eq_of_lt (x.isLt.trans_le h)]

@[simp] theorem count32_length (x : BitVec 32) : (count32 x).length = 4 := bigEndian_length _ _
@[simp] theorem count64_length (x : BitVec 64) : (count64 x).length = 8 := bigEndian_length _ _
@[simp] theorem time32_length (t : Time) : (time32 t).length = 4 := bigEndian_length _ _
@[simp] theorem age32_length (n : Nat) : (age32 n).length = 4 := bigEndian_length _ _

theorem fieldAt_count32 (x : BitVec 32) : fieldAt (count32 x) 0 4 = x.toNat := fieldAt_bitVec 4 x (by norm_num)
theorem fieldAt_count64 (x : BitVec 64) : fieldAt (count64 x) 0 8 = x.toNat := fieldAt_bitVec 8 x (by norm_num)
theorem fieldAt_time32 (t : Time) : fieldAt (time32 t) 0 4 = t.toNat % 4294967296 := fieldAt_bigEndian 4 _

/-! ## The unknown command and the refusals -/

@[simp] theorem lastCommandBytes_length (c : LastCommand) : (lastCommandBytes c).length = 12 := by
  simp [lastCommandBytes]

@[simp] theorem commandBytes_length (now : Time) (c : LastCommand) : (commandBytes now c).length = 16 := by
  simp [commandBytes]

theorem commandBytes_fields (now : Time) (c : LastCommand) :
    fieldAt (commandBytes now c) 0 4 = now.toNat % 4294967296 ∧ fieldAt (commandBytes now c) 5 1 = c.code.toNat ∧
      fieldAt (commandBytes now c) 12 4 = c.count.toNat := by
  simp [commandBytes, lastCommandBytes, fieldAt_append_left, fieldAt_append_right, fieldAt_cons, fieldAt_byte,
    fieldAt_count32, fieldAt_time32]

/-- Settles O60. -/
theorem latchesAreClearedAndRefusalsChangeNothing : Obligations.LatchesAreClearedAndRefusalsChangeNothing := by
  intro s
  refine ⟨lineAsserted_iff _ _, lineAsserted_iff _ _, ?clear, ?refused, ?unknown⟩
  case clear =>
    refine ⟨_, rfl, fun c => ?_, ?_⟩
    · rw [← clearLatches_isLatched, done, recordCommand_eq]
      rfl
    · simp [done, recordCommand_eq, clearLatches, codeClearLatches]
  case refused =>
    intro i code h
    rw [exec_of_refused h, refuseState, recordCommand_eq]
  case unknown =>
    intro code h
    have names_none : namesCommand code = false := by
      simp only [namesCommand, Bool.and_eq_false_iff, decide_eq_false_iff_not]
      obtain rfl | above := h
      · exact .inl (by decide)
      · exact .inr (by omega)
    refine ⟨commandBytes s.clock s.port.last, ?_, commandBytes_length _ _, (commandBytes_fields _ _).2.2⟩
    simp [exec, execUnknown, names_none, recordLast, latch]

end Sys2Proof.Machine
end

section
/-! The snapshots of the selectors (R92, R168, R169, R171, R176, R177, R186 to R188, R198): the length of each part, the
answers of a ring with consecutive sequences, and the reads of the port. -/

namespace Sys2Proof.Machine

/-! ## The lengths of the parts -/

@[simp] theorem cycleRecordBytes_length (r : CycleRecord) : (cycleRecordBytes r).length = 11 := by simp [cycleRecordBytes]

@[simp] theorem transmitterBytes_length (t : Transmitter) : (transmitterBytes t).length = 24 := by simp [transmitterBytes]

@[simp] theorem givenBytes_length (g : Given) : (givenBytes g).length = 5 := by simp [givenBytes]

@[simp] theorem tallyBytes_length (t : TallyLine) : (tallyBytes t).length = 40 := by simp [tallyBytes]

@[simp] theorem sinceListed_length (now : Time) (since : Option Time) : (sinceListed now since).length = 4 := by
  cases since <;> simp [sinceListed]

@[simp] theorem ownModeBytes_length (s : State) : (ownModeBytes s).length = 13 := by simp [ownModeBytes]

@[simp] theorem historyPlace_length (history : List Time) (i : Nat) : (historyPlace history i).length = 4 := by
  unfold historyPlace
  split <;> simp

@[simp] theorem historyBytes_length (history : List Time) : (historyBytes history).length = 64 := by
  simp [historyBytes, List.length_flatMap]

@[simp] theorem strokeBytes_length (k : Option Stroke) : (strokeBytes k).length = 6 := by
  cases k <;> simp [strokeBytes]

@[simp] theorem pumpBytes_length (s : State) : (pumpBytes s).length = 101 := by
  unfold pumpBytes
  split <;> simp

@[simp] theorem filterBytes_length (s : State) : (filterBytes s).length = 42 := by simp [filterBytes]

@[simp] theorem ringEnds_length (t : IntervalStore) : (ringEnds t).length = 8 := by
  unfold ringEnds
  split <;> simp

@[simp] theorem flagBytes_length (f : BitVec 17) : (flagBytes f).length = 3 := bigEndian_length _ _

@[simp] theorem storeBytesOf_length (s : State) : (storeBytesOf s).length = 32 := by
  unfold storeBytesOf
  split <;> simp

@[simp] theorem alarmBytes_length (a : AlarmUnit) : (alarmBytes a).length = 9 := by simp [alarmBytes]

@[simp] theorem ownCycleBytes_length (c : Option OwnCycle) : (ownCycleBytes c).length = 17 := by
  cases c <;> simp [ownCycleBytes]

@[simp] theorem adoptionBytes_length (a : Option Adoption) : (adoptionBytes a).length = 15 := by
  cases a <;> simp [adoptionBytes]

@[simp] theorem conversionBytes_length (c : ConversionRecord) : (conversionBytes c).length = 40 := by
  simp [conversionBytes]

@[simp] theorem heardBytes_length (now : Time) (e : Entry) : (heardBytes now e).length = 8 := by
  unfold heardBytes
  split <;> simp

@[simp] theorem liveBytes_length (e : Entry) : (liveBytes e).length = 32 := by
  unfold liveBytes
  split <;> simp

@[simp] theorem intervalRecordBytes_length (r : IntervalRecord) : (intervalRecordBytes r).length = 110 := by
  unfold intervalRecordBytes
  simp

@[simp] theorem recordBytes_length (a : Answer) : a.recordBytes.length = 110 := by
  cases a <;> simp [Answer.recordBytes]

/-! ## The snapshots of STATUS, TOTALS and PEER -/

theorem statusBytes_length (s : State) : (statusBytes s).length = 337 := by simp [statusBytes]

theorem totalsBytes_length (s : State) : (totalsBytes s).length = 216 := by
  unfold totalsBytes
  simp

theorem nodeNumber_le (s : State) : s.nodeNumber ≤ 16 := s.nodeStraps.isLt

theorem mode_code_lt (m : Mode) : m.code < 256 := by
  cases m with
  | solo cause => cases cause <;> decide
  | config | shared | parked => decide

theorem condition_code_lt (c : PumpCondition) : c.code < 256 := by cases c <;> decide

theorem status_code_lt (e : EntryStatus) : e.code < 256 := by cases e <;> simp [EntryStatus.code]

theorem fieldAt_bitVec_16 (x : BitVec 16) : fieldAt (bigEndian 2 x.toNat) 0 2 = x.toNat :=
  fieldAt_bitVec 2 x (by norm_num)

theorem statusBytes_fields (s : State) :
    fieldAt (statusBytes s) 0 4 = s.clock.toNat % 4294967296 ∧ fieldAt (statusBytes s) 4 1 = s.nodeNumber ∧
      fieldAt (statusBytes s) 19 4 = s.port.protocolErrors.toNat ∧
      fieldAt (statusBytes s) 140 1 = s.peers.mode.code ∧ fieldAt (statusBytes s) 153 1 = s.pump.condition.code ∧
      fieldAt (statusBytes s) 254 4 = s.filter.average % 4294967296 ∧
      fieldAt (statusBytes s) 328 2 = s.alarm.conditions.toNat ∧
      fieldAt (statusBytes s) 330 2 = s.alarm.latches.toNat ∧ fieldAt (statusBytes s) 332 2 = s.alarm.mask1.toNat ∧
      fieldAt (statusBytes s) 334 2 = s.alarm.mask2.toNat := by
  have node : s.nodeNumber % 256 = s.nodeNumber := Nat.mod_eq_of_lt ((nodeNumber_le s).trans_lt (by decide))
  refine ⟨?clock, ?node, ?errors, ?mode, ?pump, ?filter, ?_, ?_, ?_, ?_⟩
  case clock | node | errors =>
    simp [statusBytes, fieldAt_append_left, fieldAt_append_right, fieldAt_count32, fieldAt_time32, fieldAt_bigEndian, node]
  case mode =>
    simp [statusBytes, fieldAt_append_left, fieldAt_append_right, ownModeBytes, fieldAt_bigEndian,
      Nat.mod_eq_of_lt (mode_code_lt s.peers.mode)]
  case pump =>
    simp [statusBytes, fieldAt_append_left, fieldAt_append_right, pumpBytes, fieldAt_bigEndian,
      Nat.mod_eq_of_lt (condition_code_lt s.pump.condition)]
  case filter =>
    simp [statusBytes, fieldAt_append_left, fieldAt_append_right, filterBytes, fieldAt_bigEndian]
  all_goals
    simp [statusBytes, alarmBytes, fieldAt_append_left, fieldAt_append_right, fieldAt_bitVec_16]

theorem totalsBytes_fields (s : State) :
    fieldAt (totalsBytes s) 0 4 = s.clock.toNat % 4294967296 ∧
      fieldAt (totalsBytes s) 4 4 = s.dose.debt % 4294967296 ∧ fieldAt (totalsBytes s) 12 8 = s.dose.charged.toNat ∧
      fieldAt (totalsBytes s) 20 8 = s.dose.adopted.toNat ∧ fieldAt (totalsBytes s) 28 8 = s.dose.debited.toNat ∧
      fieldAt (totalsBytes s) 36 8 = s.dose.released.toNat ∧
      fieldAt (totalsBytes s) 44 8 = s.dose.surrendered.toNat ∧
      fieldAt (totalsBytes s) 68 8 = s.dose.delivered.toNat ∧ fieldAt (totalsBytes s) 76 8 = s.dose.excess.toNat := by
  unfold totalsBytes
  refine ⟨?_, ?_, ?_, ?_, ?_, ?_, ?_, ?_, ?_⟩ <;>
    simp [fieldAt_append_left, fieldAt_append_right, fieldAt_count64, fieldAt_time32, fieldAt_bigEndian]

theorem peerBytes_fields (s : State) (n : Byte) : (peerBytes s n).length = 54 ∧ fieldAt (peerBytes s n) 4 1 = n.toNat ∧
    fieldAt (peerBytes s n) 5 1 = if n.toNat = s.nodeNumber then 4 else (s.peers.entry n.toNat).status.code := by
  have status := Nat.mod_eq_of_lt (status_code_lt (s.peers.entry n.toNat).status)
  unfold peerBytes
  split <;> simp [fieldAt_append_left, fieldAt_append_right, fieldAt_byte, fieldAt_cons, fieldAt_bigEndian, status]

/-! ## The answers of the ring -/

theorem answerBytes_length (s : State) (a : Answer) : (answerBytes s a).length = 128 := by simp [answerBytes]

theorem bigEndian_zero (k : Nat) : bigEndian k 0 = List.replicate k 0 := by
  induction k with
  | zero => rfl
  | succ k ih => simp [bigEndian, ih, List.replicate_succ]

theorem answerBytes_fields (s : State) (a : Answer) (small : s.store.ring.length ≤ 128) :
    fieldAt (answerBytes s a) 0 4 = s.clock.toNat % 4294967296 ∧ fieldAt (answerBytes s a) 4 1 = a.code ∧
      fieldAt (answerBytes s a) 5 1 = s.store.ring.length ∧ fieldAt (answerBytes s a) 14 4 = a.skipped.toNat ∧
      (answerBytes s a).drop 18 = a.recordBytes := by
  have held : s.store.count % 256 = s.store.ring.length := Nat.mod_eq_of_lt (by simp only [IntervalStore.count]; omega)
  have code : a.code % 256 = a.code := by cases a <;> rfl
  refine ⟨?_, ?_, ?_, ?_, ?_⟩
  all_goals
    simp [answerBytes, fieldAt_append_left, fieldAt_append_right, fieldAt_count32, fieldAt_time32, fieldAt_bigEndian,
      held, code, List.drop_append, List.drop_eq_nil_of_le]

theorem answerBytes_ends (s : State) (a : Answer) (some_ : s.store.ring ≠ []) :
    fieldAt (answerBytes s a) 6 4 = (s.store.nextSequence - BitVec.ofNat 32 s.store.ring.length).toNat ∧
      fieldAt (answerBytes s a) 10 4 = (s.store.nextSequence - 1).toNat := by
  have count : s.store.count ≠ 0 := fun none_ => some_ (List.length_eq_zero_iff.1 none_)
  have ends : ringEnds s.store = count32 s.store.oldest ++ count32 s.store.newest := if_neg count
  simp [answerBytes, ends, fieldAt_append_left, fieldAt_append_right, fieldAt_count32, -BitVec.toNat_sub,
    IntervalStore.oldest, IntervalStore.newest, IntervalStore.count]

/-- An answer without a record is all 0 from the skip count on. -/
theorem answerBytes_tail (s : State) {a : Answer} (none_ : a = .notYet ∨ a = .gone) :
    (answerBytes s a).drop 14 = List.replicate 114 0 := by
  obtain rfl | rfl := none_ <;>
    simp [answerBytes, Answer.skipped, Answer.recordBytes, count32, bigEndian_zero, List.drop_append,
      List.drop_eq_nil_of_le]

section
variable {b : IntervalStore} (ring : RingConsecutive b)
include ring

/-- The record `d` behind the newest bears the sequence that lies `d` behind it. -/
theorem recordBehind_of_lt {q : BitVec 32} {d : Nat} (hd : d = (b.nextSequence - 1 - q).toNat) (held : d < b.ring.length) :
    ∃ r ∈ b.ring, r.sequence = q ∧ b.recordBehind d = some r := by
  obtain ⟨small, consecutive⟩ := ring
  have inside : b.ring.length - 1 - d < b.ring.length := by omega
  refine ⟨b.ring[b.ring.length - 1 - d], List.getElem_mem inside, ?_, List.getElem?_eq_getElem inside⟩
  rw [consecutive _ _ (List.getElem?_eq_getElem inside), show b.ring.length - (b.ring.length - 1 - d) = d + 1 by omega]
  have back : BitVec.ofNat 32 d = b.nextSequence - 1 - q := by rw [hd, BitVec.ofNat_toNat, BitVec.setWidth_eq]
  rw [BitVec.ofNat_add, back, show BitVec.ofNat 32 1 = 1 from rfl]
  ring

/-- The oldest record bears the sequence n − c. -/
theorem head_sequence {r : IntervalRecord} {rest : List IntervalRecord} (h : b.ring = r :: rest) :
    r.sequence = b.nextSequence - BitVec.ofNat 32 b.ring.length := by
  obtain ⟨-, consecutive⟩ := ring
  simpa using consecutive 0 r (by simp [h])

end

theorem answerRecord_of_lt {b : IntervalStore} (ring : RingConsecutive b) {q : BitVec 32} {d : Nat}
    (hd : d = (b.nextSequence - 1 - q).toNat) (held : d < b.ring.length) :
    ∃ r ∈ b.ring, r.sequence = q ∧ b.answerRecord q = .record r 0 := by
  obtain ⟨r, mem, sequence, here⟩ := recordBehind_of_lt ring hd held
  subst hd
  exact ⟨r, mem, sequence, by
    simp only [IntervalStore.answerRecord, IntervalStore.behind, IntervalStore.count, if_pos held, here]⟩

theorem answerRecord_of_ge {b : IntervalStore} {q : BitVec 32} {d : Nat} (hd : d = (b.nextSequence - 1 - q).toNat)
    (beyond : b.ring.length ≤ d) : b.answerRecord q = if 2147483648 ≤ d then .notYet else .gone := by
  subst hd
  exact if_neg (Nat.not_lt.2 beyond)

theorem answerNext_of_lt {b : IntervalStore} (ring : RingConsecutive b) {d : Nat}
    (hd : d = (b.nextSequence - 1 - b.cursor).toNat) (held : d < b.ring.length) :
    ∃ r ∈ b.ring, r.sequence = b.cursor ∧ b.answerNext = (.record r 0, b.cursor + 1) := by
  obtain ⟨r, mem, sequence, here⟩ := recordBehind_of_lt ring hd held
  subst hd
  exact ⟨r, mem, sequence, by
    simp only [IntervalStore.answerNext, IntervalStore.behind, IntervalStore.count, if_pos held, here]⟩

theorem answerNext_of_ahead {b : IntervalStore} {d : Nat} (hd : d = (b.nextSequence - 1 - b.cursor).toNat)
    (beyond : b.ring.length ≤ d) (ahead : 2147483648 ≤ d) : b.answerNext = (.notYet, b.cursor) := by
  subst hd
  have notHeld : ¬b.behind b.cursor < b.count := Nat.not_lt.2 beyond
  have isAhead : 2147483648 ≤ b.behind b.cursor := ahead
  simp only [IntervalStore.answerNext, notHeld, isAhead, if_true, if_false]

/-- A cursor whose record has been overwritten is answered by the oldest record held. -/
theorem answerNext_of_overwritten {b : IntervalStore} (ring : RingConsecutive b) {d : Nat}
    (hd : d = (b.nextSequence - 1 - b.cursor).toNat) (some_ : b.ring ≠ []) (beyond : b.ring.length ≤ d)
    (overwritten : d < 2147483648) :
    ∃ r ∈ b.ring, r.sequence = b.oldest ∧ b.answerNext = (.record r (b.oldest - b.cursor), b.oldest + 1) := by
  obtain ⟨r, rest, h⟩ := List.exists_cons_of_ne_nil some_
  subst hd
  have notHeld : ¬b.behind b.cursor < b.count := Nat.not_lt.2 beyond
  have notAhead : ¬2147483648 ≤ b.behind b.cursor := Nat.not_le.2 overwritten
  exact ⟨r, by simp [h], head_sequence ring h, by
    simp only [IntervalStore.answerNext, notHeld, notAhead, if_false, h]⟩

/-! ## Reads of the port -/

theorem portRead_eq (s : State) (k : Nat) :
    s.portRead k = s.port.snapshot.take k ++ List.replicate (k - s.port.snapshot.length) 255 := by
  apply List.ext_getElem
  · simp only [State.portRead, List.length_map, List.length_range, List.length_append, List.length_take,
      List.length_replicate]
    omega
  · intro i hi _
    have below : i < k := by simpa [State.portRead] using hi
    by_cases held : i < s.port.snapshot.length
    · rw [List.getElem_append_left (by rw [List.length_take]; omega)]
      simp [State.portRead, held]
    · rw [List.getElem_append_right (by rw [List.length_take]; omega)]
      simp [State.portRead, Nat.not_lt.1 held]

theorem acknowledges_iff (s : State) (a : Byte) : s.acknowledges a = true ↔
    a.toNat = 2 * (44 + s.addressOffset.toNat) ∨ a.toNat = 2 * (44 + s.addressOffset.toNat) + 1 := by
  simp only [State.acknowledges, State.portAddress, beq_iff_eq]
  omega

/-- Settles O57, selector by selector. -/
theorem selectorsLatchTheirSnapshots : Obligations.SelectorsLatchTheirSnapshots := by
  intro s
  refine ⟨⟨_, rfl, statusBytes_length s, statusBytes_fields s⟩, ⟨_, rfl, totalsBytes_length s, totalsBytes_fields s⟩,
    ?peer, ?record, ?nextRecord, ?config,
    ⟨_, rfl, commandBytes_length _ _, commandBytes_fields _ _⟩, portRead_eq s, acknowledges_iff s⟩
  case peer =>
    intro n low high
    exact ⟨_, if_pos ⟨low, high⟩, peerBytes_fields s n⟩
  case record =>
    intro q d hd ring
    obtain ⟨clock, code, held, skipped, record⟩ := answerBytes_fields s (s.store.answerRecord q) ring.1
    refine ⟨_, rfl, answerBytes_length _ _, clock, held, answerBytes_ends s _, fun inside => ?_, fun beyond => ?_⟩
    · obtain ⟨r, mem, sequence, answer⟩ := answerRecord_of_lt ring hd inside
      rw [answer] at code skipped record ⊢
      exact ⟨code, skipped, r, mem, sequence, record⟩
    · have answer := answerRecord_of_ge hd beyond
      rw [answer] at code ⊢
      refine ⟨code.trans ?_, answerBytes_tail s ?_⟩
      · split <;> rfl
      · split <;> simp
  case nextRecord =>
    rintro d oldest hd ring rfl
    obtain ⟨clock, code, held, skipped, record⟩ := answerBytes_fields s s.store.answerNext.1 ring.1
    refine ⟨_, _, rfl, answerBytes_length _ _, clock, held, answerBytes_ends s _, fun inside => ?_,
      fun beyond ahead => ?_, fun some_ beyond overwritten => ?_⟩
    · obtain ⟨r, mem, sequence, answer⟩ := answerNext_of_lt ring hd inside
      rw [answer] at code skipped record ⊢
      exact ⟨code, skipped, rfl, r, mem, sequence, record⟩
    · have answer := answerNext_of_ahead hd beyond ahead
      rw [answer] at code ⊢
      exact ⟨code, rfl, answerBytes_tail s (.inl rfl)⟩
    · obtain ⟨r, mem, sequence, answer⟩ := answerNext_of_overwritten ring hd some_ beyond overwritten
      rw [answer] at code skipped record ⊢
      exact ⟨code, skipped, rfl, r, mem, sequence, record⟩
  case config => exact fun o inside => if_pos inside

end Sys2Proof.Machine
end

section
/-! The frames that a node builds are read back by the receiver (R53, R54, R196), and the commands of the port from the bytes of
their write transactions (R174, R175, R183, R198). -/

namespace Sys2Proof.Machine

/-! ## Frames -/

/-- A payload with its CRC behind it passes the checks of framing, length and CRC. -/
theorem frame_crc_good (f : Frame) (long : 1 ≤ f.payload.length) : 3 ≤ f.bytes.length ∧
    crc16 (f.bytes.take (f.bytes.length - 2)) = BitVec.ofNat 16 (fieldAt f.bytes (f.bytes.length - 2) 2) := by
  have length : f.bytes.length = f.payload.length + 2 := by simp [Frame.bytes]
  refine ⟨by omega, ?_⟩
  rw [length, Nat.add_sub_cancel, Frame.bytes, List.take_left, fieldAt_append_right _ _ (Nat.le_refl _), Nat.sub_self,
    fieldAt_bitVec_16, BitVec.ofNat_toNat, BitVec.setWidth_eq]

theorem tallyBytes_decode (f : TallyFrame) : decodeTally (Frame.tally f).bytes = f := by
  obtain ⟨node, sequence, intervalCode, shared, capacity, litres, delivered, released, debt, target, heard⟩ := f
  have hLitres := fieldAt_bitVec 4 litres (by norm_num)
  have hDelivered := fieldAt_bitVec 4 delivered (by norm_num)
  have hReleased := fieldAt_bitVec 4 released (by norm_num)
  have hDebt := fieldAt_bitVec 4 debt (by norm_num)
  cases shared <;>
    simp [decodeTally, Frame.bytes, Frame.payload, tallyPayload, byteAt, fieldAt_append_left, fieldAt_append_right,
      fieldAt_cons, fieldAt_bitVec_16, hLitres, hDelivered, hReleased, hDebt]

theorem leaveBytes_decode (f : LeaveFrame) : decodeLeave (Frame.leave f).bytes = f := by
  have released := fieldAt_bitVec 4 f.released (by norm_num)
  simp [decodeLeave, Frame.bytes, Frame.payload, leavePayload, byteAt, fieldAt_append_left, fieldAt_cons, released]

theorem judge_tally (f : TallyFrame) (node : 1 ≤ f.node.toNat ∧ f.node.toNat ≤ 16)
    (interval : 1 ≤ f.intervalCode.toNat ∧ f.intervalCode.toNat ≤ 8) (capacity : f.capacity.toNat ≤ 15) :
    judge (Frame.tally f).bytes false false = .good (.tally f) := by
  obtain ⟨long, crc⟩ := frame_crc_good (.tally f) (by simp [Frame.payload, tallyPayload])
  have length : (Frame.tally f).bytes.length = 28 := by simp [Frame.bytes, Frame.payload, tallyPayload]
  have kind : byteAt (Frame.tally f).bytes 1 = 1 := rfl
  have number : byteAt (Frame.tally f).bytes 0 = f.node := rfl
  have fields : tallyFieldsGood (Frame.tally f).bytes = true := by
    have mode : (byteAt (Frame.tally f).bytes 4).toNat ≤ 1 := by
      show (if f.shared then 1 else 0 : Byte).toNat ≤ 1
      split <;> decide
    simp only [tallyFieldsGood, Bool.and_eq_true, decide_eq_true_eq]
    exact ⟨⟨interval, mode⟩, capacity⟩
  rw [judge_of_crc_good long crc, kind, number, length, tallyBytes_decode, fields]
  simp [frameLength]
  omega

theorem judge_leave (f : LeaveFrame) (node : 1 ≤ f.node.toNat ∧ f.node.toNat ≤ 16) :
    judge (Frame.leave f).bytes false false = .good (.leave f) := by
  obtain ⟨long, crc⟩ := frame_crc_good (.leave f) (by simp [Frame.payload, leavePayload])
  have length : (Frame.leave f).bytes.length = 9 := by simp [Frame.bytes, Frame.payload, leavePayload]
  have kind : byteAt (Frame.leave f).bytes 1 = 2 := rfl
  have number : byteAt (Frame.leave f).bytes 0 = f.node := rfl
  rw [judge_of_crc_good long crc, kind, number, length, leaveBytes_decode]
  simp [frameLength]
  omega

/-! ## Write transactions -/

theorem commandOf_of_not_code {x : Byte} (h : isCommandCode x = false) : commandOf x = .unknown x := by
  have differs : ∀ y : Byte, isCommandCode y = true → x ≠ y := by
    rintro y known rfl
    simp [h] at known
  simp only [commandOf, differs codeStart rfl, differs codeHold rfl, differs codeResume rfl, differs codePumpReset rfl,
    differs codeLeave rfl, differs codeJoin rfl, differs codeMark rfl, differs codeClearLatches rfl, if_false]

theorem readRecord_bytes (e : WriteEnd) (q : BitVec 32) (rest : List Byte) :
    readRecord e (bigEndian 4 q.toNat ++ rest) = .record q :: readExtra e rest := by
  have whole : BitVec.ofNat 32 (fromBytes (bigEndian 4 q.toNat)) = q := by
    rw [fromBytes_bigEndian, Nat.mod_eq_of_lt (b := 256 ^ 4) q.isLt, BitVec.ofNat_toNat, BitVec.setWidth_eq]
  show Instr.record (BitVec.ofNat 32 (fromBytes (bigEndian 4 q.toNat))) :: readExtra e rest = _
  rw [whole]

/-- CONFIG alone, and CONFIG_WRITE with the data behind the offset. -/
theorem readConfig_bytes (e : WriteEnd) (o : BitVec 16) (data : List Byte) (inside : offsetWellFormed o = true) :
    readConfig e (bigEndian 2 o.toNat ++ data) =
      (if data = [] then .config o else .configWrite o data (e == .stopped)) :: e.whole := by
  have whole : BitVec.ofNat 16 (fromBytes (bigEndian 2 o.toNat)) = o := by
    rw [fromBytes_bigEndian, Nat.mod_eq_of_lt (b := 256 ^ 2) o.isLt, BitVec.ofNat_toNat, BitVec.setWidth_eq]
  simp only [bigEndian, List.cons_append, List.nil_append, readConfig] at whole ⊢
  rw [whole, if_neg (by simp [inside])]
  split <;> rfl

/-- A command that one whole transaction spells, but for the three that take what follows as their own, stands before what the
bytes behind it spell. -/
theorem readWrite_append {c : Instr} {b : List Byte} (wf : c.wellFormed = true) (hb : writeBytes c = some b)
    (notConfig : ∀ o, c ≠ .config o) (notWrite : ∀ o d v, c ≠ .configWrite o d v) (notSelector : c ≠ .commandSelector)
    (e : WriteEnd) (rest : List Byte) : readWrite e (b ++ rest) = c :: readExtra e rest := by
  cases c
  case config o => exact absurd rfl (notConfig o)
  case configWrite o d v => exact absurd rfl (notWrite o d v)
  case commandSelector => exact absurd rfl notSelector
  case status | totals | nextRecord | start | hold | resume | pumpReset | leave | join | mark | clearLatches =>
    cases hb; rfl
  case peer n => cases hb; exact congrArg _ (if_pos wf)
  case record q => cases hb; exact readRecord_bytes e q rest
  case unknown x =>
    cases hb
    have unknown : commandOf x = .unknown x := commandOf_of_not_code (by simpa [Instr.wellFormed] using wf)
    exact congrArg (· :: readExtra e rest) unknown
  all_goals cases hb

/-- Settles O27. -/
theorem builtFramesAreReadBack : Obligations.BuiltFramesAreReadBack := by
  refine ⟨?frames, ?whole, ?noSelector, ?noCommand, ?partWay, fun c b x rest e wf hb h1 h2 h3 =>
    readWrite_append wf hb h1 h2 h3 e (x :: rest), ?cut⟩
  case frames =>
    intro f node fields
    cases f with
    | tally g => obtain ⟨low, high, capacity⟩ := fields g rfl; exact judge_tally g node ⟨low, high⟩ capacity
    | leave g => exact judge_leave g node
  case whole =>
    intro c b wf hb
    cases c
    case config o =>
      cases hb
      have alone := readConfig_bytes .stopped o [] wf
      rwa [List.append_nil] at alone
    case commandSelector => cases hb; rfl
    case configWrite o data stopped =>
      simp only [Instr.wellFormed, Bool.and_eq_true, Bool.not_eq_true', List.isEmpty_eq_false_iff] at wf
      cases stopped <;> cases hb
      have written := readConfig_bytes .stopped o data wf.1
      rwa [if_neg wf.2] at written
    all_goals
      have alone := readWrite_append wf hb nofun nofun nofun .stopped []
      rwa [List.append_nil] at alone
  case noSelector =>
    intro x rest e range
    have differs : ∀ y : Byte, 1 ≤ y.toNat ∧ y.toNat ≤ 7 → x ≠ y := by rintro y known rfl; omega
    simp only [readWrite, differs 1 (by decide), differs 2 (by decide), differs 3 (by decide), differs 4 (by decide),
      differs 5 (by decide), differs 6 (by decide), differs 7 (by decide), if_false]
  case noCommand =>
    intro x rest e range
    have none_ : isCommandCode x = false := by
      simp only [isCommandCode, Bool.and_eq_false_iff, decide_eq_false_iff_not]; omega
    exact ⟨readExtra e rest, congrArg (· :: readExtra e rest) (commandOf_of_not_code none_)⟩
  case partWay =>
    rintro code p (⟨rfl, short⟩ | ⟨rfl, short⟩ | ⟨rfl, short⟩)
    · match p, short with
      | [], _ => exact ⟨rfl, rfl⟩
    · match p, short with
      | [], _ => exact ⟨rfl, rfl⟩
      | [_], _ => exact ⟨rfl, rfl⟩
      | [_, _], _ => exact ⟨rfl, rfl⟩
      | [_, _, _], _ => exact ⟨rfl, rfl⟩
      | _ :: _ :: _ :: _ :: _, short => simp only [List.length_cons] at short; omega
    · match p, short with
      | [], _ => exact ⟨rfl, rfl⟩
      | [_], _ => exact ⟨rfl, rfl⟩
      | _ :: _ :: _, short => simp at short
  case cut =>
    intro c b wf hb notWrite
    cases c
    case config o =>
      cases hb
      have alone := readConfig_bytes .cut o [] wf
      rwa [List.append_nil] at alone
    case commandSelector => cases hb; rfl
    case configWrite o d v => exact absurd rfl (notWrite o d v)
    all_goals
      have alone := readWrite_append wf hb nofun nofun nofun .cut []
      rwa [List.append_nil] at alone

end Sys2Proof.Machine
end

section
/-! The bounds of the combined factor (R39) over the table of points in use. -/

namespace Sys2Proof.Machine

theorem pairwise_of_adjacent {α : Type} {R : α → α → Prop} (trans : ∀ a b c, R a b → R b c → R a c) {l : List α}
    (adjacent : ∀ i, (h : i + 1 < l.length) → R l[i] l[i + 1]) : l.Pairwise R :=
  haveI : Trans R R R := ⟨trans _ _ _⟩
  List.isChain_iff_pairwise.1 (List.isChain_iff_getElem.2 adjacent)

section
variable {c : Cfg} (inside : c.pointCount ≤ c.points.length)
include inside

theorem pointsInUse_length : c.pointsInUse.length = c.pointCount := by simp [Cfg.pointsInUse, inside]

theorem pointsInUse_getElem (i : Nat) (h : i < c.pointsInUse.length) :
    c.pointsInUse[i] = (c.pointPressure i, c.pointFactor i) := by
  have used : i < c.points.length := (pointsInUse_length inside ▸ h).trans_le inside
  simp [Cfg.pointsInUse, Cfg.pointPressure, Cfg.pointFactor, used]

theorem pointsInUse_pairwise {R : Nat × Nat → Nat × Nat → Prop} (trans : ∀ a b c, R a b → R b c → R a c)
    (adjacent : ∀ i, i + 1 < c.pointCount →
      R (c.pointPressure i, c.pointFactor i) (c.pointPressure (i + 1), c.pointFactor (i + 1))) :
    c.pointsInUse.Pairwise R :=
  pairwise_of_adjacent trans fun i h => by
    rw [pointsInUse_getElem inside, pointsInUse_getElem inside]
    exact adjacent i (pointsInUse_length inside ▸ h)

end

/-- A larger pressure and factor and a smaller temperature do not lower the combined factor. -/
theorem combinedFactor_mono {c : Cfg} {p p2 t t2 f f2 : Nat} (base : 0 < c.basePressure) (warm : 0 < t2) (hp : p ≤ p2)
    (ht : t2 ≤ t) (hf : f ≤ f2) : combinedFactor c p t f ≤ combinedFactor c p2 t2 f2 := by
  unfold combinedFactor
  exact Nat.div_le_div (by gcongr) (by gcongr) (by positivity)

/-- Settles O29. -/
theorem combinedFactorLiesBetweenItsBounds : Obligations.CombinedFactorLiesBetweenItsBounds := by
  intro c pf tf two inside base warm rises pLow pHigh tLow tHigh
  have ascending : c.pointsInUse.Pairwise fun x y => x.1 < y.1 :=
    pointsInUse_pairwise inside (fun _ _ _ => lt_trans) fun i h => (rises i h).1
  have rising : c.pointsInUse.Pairwise fun x y => x.2 ≤ y.2 :=
    pointsInUse_pairwise inside (fun _ _ _ => le_trans) fun i h => (rises i h).2
  have point : ∀ i, i < c.pointCount → c.pointsInUse[i]? = some (c.pointPressure i, c.pointFactor i) := fun i h => by
    have used : i < c.pointsInUse.length := pointsInUse_length inside ▸ h
    rw [List.getElem?_eq_getElem used, pointsInUse_getElem inside]
  have first : c.pointFactor 0 ≤ factorAt pf c.pointsInUse := by
    obtain ⟨rest, whole⟩ := List.head?_eq_some_iff.1 (List.head?_eq_getElem? ▸ point 0 (by omega))
    rw [whole] at ascending rising ⊢
    exact head_le_factorAt pf ascending rising
  have last : factorAt pf c.pointsInUse ≤ c.pointFactor (c.pointCount - 1) := by
    refine factorAt_le_last (z := (c.pointPressure (c.pointCount - 1), _)) pf ascending rising ?_
    rw [List.getLast?_eq_getElem?, pointsInUse_length inside]
    exact point _ (by omega)
  exact ⟨combinedFactor_mono base (warm.trans_le tLow) pLow tHigh first, combinedFactor_mono base warm pHigh tLow last⟩

end Sys2Proof.Machine
end

section
/-! What the commands do to the figures that several blocks share, as chains of elementary changes: an inductive relation with one
constructor per elementary change, and for each shared operation of the model the lemma that it is such a chain. A condition that
every step keeps is then one case analysis over the elementary changes. -/

namespace Sys2Proof.Machine

/-! ## The elementary changes -/

/-- Nothing moves that the blocks share: what may move is the Pulse Counter, the sensor bus, the Conversion Unit, the port, the
timers and figures of the Interval Store outside the open interval, and the frames and counts of the tally line. -/
structure Quiet (s t : State) : Prop where
  clock : t.clock = s.clock
  straps : t.nodeStraps = s.nodeStraps
  cfg : t.cfg = s.cfg
  peers : t.peers = s.peers
  dose : t.dose = s.dose
  pump : t.pump = s.pump
  filter : t.filter = s.filter
  current : t.store.current = s.store.current
  alarm : t.alarm = s.alarm
  silent : t.tally.transmitter = .silent ↔ s.tally.transmitter = .silent
  consecutive : t.tally.consecutive = s.tally.consecutive

/-- What the filter takes in besides the tests of THROTTLED and of the low dwell: its accumulators, its counts and the average. -/
structure FilterKept (s : State) (x : ConcentrationFilter) : Prop where
  throttled : x.throttled = s.filter.throttled
  dwell : x.dwell = s.filter.dwell
  period : x.periodStart = s.filter.periodStart ∨ s.periodDue = true ∧
    x.periodStart = reschedule s.filter.periodStart (s.cfg.filterPeriod * 1000)
  bounded : AverageBounded s → AverageBounded (s.withFilter x)

/-- What moves in the pump besides its condition, its watermark marks, a start and an outcome: the phases of the stroke, the end
of a stroke, an entry that leaves the history, and counts of the pump's own. -/
structure PumpKept (s : State) (x : PumpSequencer) : Prop where
  condition : x.condition = s.pump.condition
  behind : x.behind = s.pump.behind
  strained : x.strained = s.pump.strained
  confirmed : x.confirmed = s.pump.confirmed
  missed : x.missed = s.pump.missed
  history : x.history.Sublist s.pump.history
  phase : ∀ k, x.stroke = some k → k.phaseStart = s.clock ∨
    ∃ k0, s.pump.stroke = some k0 ∧ k.phase = k0.phase ∧ k.phaseStart = k0.phaseStart

/-- The open interval when its figures follow the counters of Dose Accounting from `d` to `e` (R113, R163). -/
def CurrentInterval.following (i : CurrentInterval) (d e : DoseAccounting) : CurrentInterval :=
  { i with charged := i.charged + (e.charged - d.charged), adopted := i.adopted + (e.adopted - d.adopted),
           surrendered := i.surrendered + (e.surrendered - d.surrendered), waived := i.waived + (e.waived - d.waived),
           undosed := i.undosed + (e.undosed - d.undosed), delivered := i.delivered + (e.delivered - d.delivered) }

/-- Dose Accounting takes the figures `x`, and the open interval follows them (R113). -/
def book (x : DoseAccounting) (s : State) : State := onInterval (fun i => i.following s.dose x) (s.withDose x)

/-- The figures of a stroke that confirms: its count, and the interval's (R129, R163). -/
def countStroke (s : State) : State :=
  onInterval (fun i => { i with strokes := i.strokes + 1 }) (s.withPump { s.pump with confirmed := s.pump.confirmed + 1 })

/-- The figures of a stroke that misses: its count, and the interval's (R130, R163). -/
def countMiss (s : State) : State :=
  onInterval (fun i => { i with missed := i.missed + 1 }) (s.withPump { s.pump with missed := s.pump.missed + 1 })

/-- What Dose Accounting books besides the debt and the released counter; the carried remainders stay below their divisor. -/
structure Bookable (d x : DoseAccounting) : Prop where
  debt : x.debt = d.debt
  released : x.released = d.released
  r : d.r < chargeUnit → x.r < chargeUnit
  ru : d.ru < chargeUnit → x.ru < chargeUnit

/-- Whether a chain is of a cycle end, which gives the values and converts, of a command that may move the Peer Table's entries and
the mode, or of any other command. -/
inductive Scope where
  | plain | cycle | table

/-- One elementary change. -/
inductive Change (scope : Scope) : State → State → Prop
  | quiet {s t} (same : Quiet s t) : Change scope s t
  | filter {s} (x) (kept : FilterKept s x) : Change scope s (s.withFilter x)
  | throttle (s) : Change scope s (testThrottle s)
  | dwell (s) : Change scope s (testDwell s)
  | dwellEnds (s) :
      Change scope s (setLevel .concLow true (s.withFilter { s.filter with dwell := .expired, concLow := true }))
  | book {s} (x) (h : Bookable s.dose x) : Change scope s (book x s)
  | debt {s} (x) (h : x ≤ s.dose.debt ∨ x ≤ s.ceilingDebt) : Change scope s (setDebt x s)
  | released (s) (x) : Change scope s (addReleased x (raise .debtReleased (setFlag .debtReleased s)))
  | condition {s} (c) (was : s.pump.condition ≠ .unset ∧ s.pump.condition ≠ .none) (new : c ≠ .unset ∧ c ≠ .none) :
      Change scope s (setCondition c s)
  | begin {s} (h : s.mayStart = true) : Change scope s (beginStroke s)
  | pump {s} (x) (kept : PumpKept s x) : Change scope s (s.withPump x)
  | confirmed (s) : Change scope s (countStroke s)
  | missed (s) : Change scope s (countMiss s)
  | mode (s) (table : scope = .table) (m) (h : m ≠ .config) : Change scope s (setMode m s)
  | peers {s} (x) (mode : x.mode = s.peers.mode) (entries : x.entries = s.peers.entries) : Change scope s (s.withPeers x)
  | entry {s} (table : scope = .table) (n e) (place : n - 1 ≠ s.nodeNumber - 1 ∨ (s.peers.entry n).isLive = true)
      (heard : e.isLive = true → e.lastHeard = s.clock) : Change scope s (setEntry n e s)
  | noteLive (s) (table : scope = .table) : Change scope s (noteLiveCount s)
  | raised (s) (c f) (flag : Flag.condition f = some c) (event : c.bit &&& levelConditions = 0) :
      Change scope s (raise c (setFlag f s))
  | abandoned (s) (r) : Change scope s (countAbandoned r s)
  | sent {s} (x) (was : s.tally.transmitter ≠ .silent) (new : x.transmitter ≠ .silent) (zero : x.consecutive = 0) :
      Change scope s (setLevel .linkFault false (s.withTally x))
  | silenced (s) : Change scope s (setLevel .duplicateNumber true (silence s))
  | given (s) (q v) (h : scope = .cycle) : Change scope s (setLevel (substCond q) v s)
  | givenFlag (s) (f) (h : scope = .cycle) (flag : Flag.condition f = none ∧ f ≠ .solo ∧ f ≠ .parked) :
      Change scope s (setFlag f s)
  | counted (s) (pf tf) (h : scope = .cycle) : Change scope s (countCycle pf tf s)

/-- A chain of elementary changes. -/
abbrev Changes (scope : Scope) : State → State → Prop := Relation.ReflTransGen (Change scope)

section
variable {b : Scope} {s t : State}

/-- A chain is lengthened by one elementary change. -/
theorem Change.after {u : State} (k : Change b t u) (h : Changes b s t) : Changes b s u := h.tail k

theorem Changes.quiet {u : State} (h : Changes b s t) (same : Quiet t u) : Changes b s u := (Change.quiet same).after h

/-! ## What one block alone takes in -/

theorem withPort_changes (x : SupervisoryPort) (h : Changes b s t) : Changes b s (t.withPort x) :=
  h.quiet ⟨rfl, rfl, rfl, rfl, rfl, rfl, rfl, rfl, rfl, Iff.rfl, rfl⟩

theorem withSensor_changes (x : SensorBus) (h : Changes b s t) : Changes b s (t.withSensor x) :=
  h.quiet ⟨rfl, rfl, rfl, rfl, rfl, rfl, rfl, rfl, rfl, Iff.rfl, rfl⟩

theorem withPulse_changes (x : PulseCounter) (h : Changes b s t) : Changes b s (t.withPulse x) :=
  h.quiet ⟨rfl, rfl, rfl, rfl, rfl, rfl, rfl, rfl, rfl, Iff.rfl, rfl⟩

theorem withConv_changes (x : ConversionUnit) (h : Changes b s t) : Changes b s (t.withConv x) :=
  h.quiet ⟨rfl, rfl, rfl, rfl, rfl, rfl, rfl, rfl, rfl, Iff.rfl, rfl⟩

theorem withStore_changes (x : IntervalStore) (current : x.current = t.store.current) (h : Changes b s t) :
    Changes b s (t.withStore x) :=
  h.quiet ⟨rfl, rfl, rfl, rfl, rfl, rfl, rfl, current, rfl, Iff.rfl, rfl⟩

theorem withTally_changes (x : TallyLine) (silent : x.transmitter = .silent ↔ t.tally.transmitter = .silent)
    (consecutive : x.consecutive = t.tally.consecutive) (h : Changes b s t) : Changes b s (t.withTally x) :=
  h.quiet ⟨rfl, rfl, rfl, rfl, rfl, rfl, rfl, rfl, rfl, silent, consecutive⟩

theorem withPeers_changes (x : PeerTable) (mode : x.mode = t.peers.mode) (entries : x.entries = t.peers.entries)
    (h : Changes b s t) : Changes b s (t.withPeers x) := (Change.peers x mode entries).after h

/-! ## Dose Accounting -/

theorem onInterval_of_same {g : CurrentInterval → CurrentInterval} (h : ∀ i, g i = i) (s : State) : onInterval g s = s := by
  have same : g = id := funext h
  simp only [onInterval, same, Option.map_id, id]
  rfl

theorem booking_eq {f : CurrentInterval → CurrentInterval} {x : DoseAccounting} (h : ∀ i, i.following s.dose x = f i) :
    onInterval f (s.withDose x) = book x s := by
  rw [book, funext h]

theorem booking_changes {f : CurrentInterval → CurrentInterval} {x : DoseAccounting} (k : Bookable t.dose x)
    (f_eq : ∀ i, i.following t.dose x = f i) (h : Changes b s t) : Changes b s (onInterval f (t.withDose x)) :=
  booking_eq f_eq ▸ (Change.book x k).after h

/-- A booking that moves none of the figures that the interval follows. -/
theorem withDose_changes {x : DoseAccounting} (k : Bookable t.dose x) (same : ∀ i : CurrentInterval, i.following t.dose x = i)
    (h : Changes b s t) : Changes b s (t.withDose x) :=
  onInterval_of_same (fun _ => rfl) (t.withDose x) ▸ booking_changes k same h

theorem setDebt_changes {x : Nat} (k : x ≤ t.dose.debt ∨ x ≤ t.ceilingDebt) (h : Changes b s t) :
    Changes b s (setDebt x t) := (Change.debt x k).after h

theorem releasing_changes (x : Nat) (h : Changes b s t) :
    Changes b s (addReleased x (raise .debtReleased (setFlag .debtReleased t))) := (Change.released t x).after h

theorem release_changes (h : Changes b s t) : Changes b s (release t) := by
  unfold release
  split
  · exact h
  · exact setDebt_changes (.inl (Nat.zero_le _)) (releasing_changes _ h)

theorem takeIntoDebt_changes (x : Nat) (h : Changes b s t) : Changes b s (takeIntoDebt x t) := by
  unfold takeIntoDebt
  split
  · next fits => exact setDebt_changes (.inr fits) h
  · exact setDebt_changes (.inr (by simp [State.ceilingDebt])) (releasing_changes _ h)

theorem landCharge_changes (x : Nat) (h : Changes b s t) : Changes b s (landCharge x t) := by
  unfold landCharge
  split
  · exact booking_changes ⟨rfl, rfl, id, id⟩ (fun i => by simp [CurrentInterval.following]) h
  · exact takeIntoDebt_changes _ (booking_changes ⟨rfl, rfl, id, id⟩ (fun i => by simp [CurrentInterval.following]) h)

theorem remainder_lt (x : Nat) : x % chargeUnit < chargeUnit := Nat.mod_lt _ (by decide)

theorem charge_changes (w : Nat) (h : Changes b s t) : Changes b s (charge w t) :=
  landCharge_changes _
    (withDose_changes ⟨rfl, rfl, fun _ => remainder_lt _, id⟩ (fun i => by simp [CurrentInterval.following]) h)

theorem addUndosed_changes (v : Nat) (h : Changes b s t) : Changes b s (addUndosed v t) := by
  have booked : Changes b s (onInterval
      (fun i => { i with undosed := i.undosed + BitVec.ofNat 64 (t.undosedSum v / chargeUnit) })
      (t.withDose { t.dose with undosed := t.dose.undosed + BitVec.ofNat 64 (t.undosedSum v / chargeUnit),
                                ru := t.undosedSum v % chargeUnit })) :=
    booking_changes ⟨rfl, rfl, id, fun _ => remainder_lt _⟩ (fun i => by simp [CurrentInterval.following]) h
  simp only [addUndosed, raiseIf]
  split
  · exact (Change.raised _ .undosed .undosed rfl (by decide)).after booked
  · exact booked

theorem recordOwnCycle_changes (c : OwnCycle) (h : Changes b s t) : Changes b s (recordOwnCycle c t) :=
  withDose_changes ⟨rfl, rfl, id, id⟩ (fun i => by simp [CurrentInterval.following]) h

theorem ownCycleEvent_changes (n : BitVec 32) (v : Nat) (h : Changes b s t) : Changes b s (ownCycleEvent n v t) := by
  unfold ownCycleEvent
  split
  · exact recordOwnCycle_changes _ (addUndosed_changes v h)
  · exact recordOwnCycle_changes _ (charge_changes _ h)

theorem adopt_changes (k : AdoptionKind) (p o d : Nat) (h : Changes b s t) : Changes b s (adopt k p o d t) :=
  takeIntoDebt_changes _ (booking_changes ⟨rfl, rfl, id, id⟩ (fun i => by simp [CurrentInterval.following]) h)

theorem surrender_changes (h : Changes b s t) : Changes b s (surrender t) :=
  setDebt_changes (.inl (by simp))
    (booking_changes ⟨rfl, rfl, id, id⟩ (fun i => by simp [CurrentInterval.following]) h)

/-- The accumulators of the filter take figures. -/
theorem accumulators_changes (v d : BitVec 64) (h : Changes b s t) :
    Changes b s (t.withFilter { t.filter with volume := v, delivered := d }) :=
  (Change.filter { t.filter with volume := v, delivered := d } ⟨rfl, rfl, .inl rfl, id⟩).after h

theorem addDelivered_changes (x : Nat) (h : Changes b s t) : Changes b s (addDelivered x t) := accumulators_changes _ _ h

theorem addHeader_changes (v : Nat) (h : Changes b s t) : Changes b s (addHeader v t) :=
  withStore_changes _ rfl (accumulators_changes _ _ h)

theorem debit_changes (h : Changes b s t) : Changes b s (debit t) :=
  setDebt_changes (.inl (by simp)) (addDelivered_changes _
    (booking_changes ⟨rfl, rfl, id, id⟩ (fun i => by simp [CurrentInterval.following]) h))

/-! ## Starts and modes -/

theorem testStart_changes (h : Changes b s t) : Changes b s (testStart t) := by
  unfold testStart
  split
  · next may => exact (Change.begin may).after h
  · exact h

theorem startIfChanged_changes (u : State) (h : Changes b s t) : Changes b s (startIfChanged u t) := by
  unfold startIfChanged
  split
  · exact h
  · exact testStart_changes h

theorem setMode_changes {m : Mode} (k : m ≠ .config) (h : Changes .table s t) : Changes .table s (setMode m t) :=
  (Change.mode t rfl m k).after h

theorem leaveShared_changes (c : SoloCause) (h : Changes .table s t) : Changes .table s (leaveShared c t) :=
  surrender_changes (startIfChanged_changes _ (setMode_changes nofun h))

theorem aloneIfNone_changes (h : Changes .table s t) : Changes .table s (aloneIfNone t) := by
  unfold aloneIfNone
  split
  · exact leaveShared_changes _ h
  · exact h

theorem noteLiveCount_changes (h : Changes .table s t) : Changes .table s (noteLiveCount t) := (Change.noteLive t rfl).after h

theorem setSwitchPending_changes (v : Bool) (h : Changes b s t) : Changes b s (setSwitchPending v t) :=
  withPeers_changes _ rfl rfl h

/-! ## The tally line -/

theorem makePending_changes (f : Frame) (k : t.tally.transmitter ≠ .silent) (h : Changes b s t) :
    Changes b s (makePending f t) :=
  withTally_changes _ (by simp [k]; split <;> simp) rfl h

theorem build_changes (o : Owed) (k : t.tally.transmitter ≠ .silent) (h : Changes b s t) : Changes b s (build o t) := by
  cases o with
  | none => exact h
  | tally => exact makePending_changes _ k h
  | leave => exact makePending_changes _ k h

theorem buildOwed_changes (k : t.tally.transmitter ≠ .silent) (h : Changes b s t) : Changes b s (buildOwed t) :=
  build_changes _ k (withTally_changes _ Iff.rfl rfl h)

theorem countAbandoned_changes (r : Bool) (h : Changes b s t) : Changes b s (countAbandoned r t) :=
  (Change.abandoned t r).after h

theorem fallDue_changes (o : Owed) (h : Changes b s t) : Changes b s (fallDue o t) := by
  unfold fallDue
  split
  · exact withTally_changes _ Iff.rfl rfl h
  · next empty => exact build_changes o (by simp [empty]) h
  · next defer => exact build_changes o (by simp [countAbandoned_tally, defer]) (countAbandoned_changes _ h)
  · next holdoff => exact build_changes o (by simp [countAbandoned_tally, holdoff]) (countAbandoned_changes _ h)
  · exact h

theorem switchToShared_changes (d : BitVec 32) (h : Changes .table s t) : Changes .table s (switchToShared d t) :=
  aloneIfNone_changes (withPeers_changes _ rfl rfl (startIfChanged_changes _ (setMode_changes nofun h)))

theorem reportSent_changes (p : Pending) (h : Changes .table s t) : Changes .table s (reportSent p t) := by
  unfold reportSent
  split
  · exact h
  · split
    · split
      · exact withPeers_changes _ rfl rfl h
      · exact h
      · split
        · exact h
        · exact switchToShared_changes _ h
      · exact h
      · exact h
    · exact h

theorem frameIsSent_changes (p : Pending) (k : t.tally.transmitter ≠ .silent) (h : Changes .table s t) :
    Changes .table s (frameIsSent p t) :=
  buildOwed_changes (by simp) (reportSent_changes p ((Change.sent _ k (by simp) rfl).after h))

theorem loseAttempt_changes (k : t.tally.transmitter ≠ .silent) (h : Changes b s t) : Changes b s (loseAttempt t) := by
  have lost : Changes b s (t.withTally { t.tally with transmitter := .defer, attempt := t.tally.attempt + 1 }) :=
    withTally_changes _ (by simp [k]) rfl h
  simp only [loseAttempt]
  split
  · exact lost
  · exact buildOwed_changes (by simp [countAbandoned_tally]) (countAbandoned_changes _ lost)

theorem abandonFrame_changes (k : t.tally.transmitter ≠ .silent) (h : Changes b s t) : Changes b s (abandonFrame t) :=
  buildOwed_changes (by simp [countAbandoned_tally]) (countAbandoned_changes _ (withTally_changes _ (by simp [k]) rfl h))

/-! ## The Peer Table -/

theorem noteListing_changes (v : Bool) (h : Changes b s t) : Changes b s (noteListing v t) := by
  unfold noteListing
  split
  · exact withPeers_changes _ rfl rfl h
  · exact h

theorem setEntry_changes {n : Nat} {e : Entry} (place : n - 1 ≠ t.nodeNumber - 1 ∨ (t.peers.entry n).isLive = true)
    (heard : e.isLive = true → e.lastHeard = t.clock) (h : Changes .table s t) : Changes .table s (setEntry n e t) :=
  (Change.entry rfl n e place heard).after h

theorem raiseImplausible_changes (h : Changes b s t) : Changes b s (raiseImplausible t) :=
  (Change.raised t .peerImplausible .peerImplausible rfl (by decide)).after h

theorem handAdoption_changes (k : AdoptionKind) (n x : Nat) (h : Changes b s t) : Changes b s (handAdoption k n x t) := by
  unfold handAdoption
  split
  · exact startIfChanged_changes _ (adopt_changes _ _ _ _ h)
  · exact h

theorem handCharge_changes (v w : Bool) (d : BitVec 32) (h : Changes b s t) : Changes b s (handCharge v w d t) := by
  unfold handCharge
  split
  · exact startIfChanged_changes _ (charge_changes _ h)
  · exact h

theorem handTallyAdoption_changes (n : Nat) (l : LiveFields) (v : Bool) (d : Nat) (h : Changes b s t) :
    Changes b s (handTallyAdoption n l v d t) := by
  unfold handTallyAdoption
  split
  · split
    · split
      · exact handAdoption_changes _ _ _ h
      · exact h
    · exact handAdoption_changes _ _ _ h
  · exact h

theorem admission_changes (f : TallyFrame) (k : f.node.toNat - 1 ≠ t.nodeNumber - 1) (h : Changes .table s t) :
    Changes .table s (admission f t) :=
  noteListing_changes _ (noteLiveCount_changes (setEntry_changes (.inl k) (fun _ => rfl) h))

theorem updateEntry_changes (f : TallyFrame) (l : LiveFields) (v : Bool) (k : f.node.toNat - 1 ≠ t.nodeNumber - 1)
    (h : Changes .table s t) : Changes .table s (updateEntry f l v t) :=
  noteListing_changes _ (setEntry_changes (.inl k) (fun _ => rfl) h)

theorem acceptTally_changes (f : TallyFrame) (l : LiveFields) (k : f.node.toNat - 1 ≠ t.nodeNumber - 1)
    (h : Changes .table s t) : Changes .table s (acceptTally f l t) := by
  unfold acceptTally
  dsimp only
  split
  · exact handTallyAdoption_changes _ _ _ _ (raiseImplausible_changes (updateEntry_changes _ _ _ k h))
  · exact addDelivered_changes _ (addHeader_changes _
      (handTallyAdoption_changes _ _ _ _ (handCharge_changes _ _ _ (updateEntry_changes _ _ _ k h))))

theorem acceptLeave_changes (f : LeaveFrame) (l : LiveFields) (k : f.node.toNat - 1 ≠ t.nodeNumber - 1)
    (h : Changes .table s t) : Changes .table s (acceptLeave f l t) := by
  refine aloneIfNone_changes ?_
  split
  · exact raiseImplausible_changes (noteLiveCount_changes (setEntry_changes (.inl k) nofun h))
  · split
    · exact handAdoption_changes _ _ _ (noteLiveCount_changes (setEntry_changes (.inl k) nofun h))
    · exact noteLiveCount_changes (setEntry_changes (.inl k) nofun h)

theorem takeFrame_changes (f : Frame) (k : f.node.toNat - 1 ≠ t.nodeNumber - 1) (h : Changes .table s t) :
    Changes .table s (takeFrame f t) := by
  cases f with
  | tally f =>
    simp only [takeFrame, takeTally]
    split
    · split
      · exact h
      · exact acceptTally_changes f _ k h
    · exact admission_changes f k h
  | leave f =>
    simp only [takeFrame, takeLeave]
    split
    · split
      · exact h
      · exact acceptLeave_changes f _ k h
    · exact setEntry_changes (.inl k) nofun h

theorem duplicate_changes (h : Changes .table s t) : Changes .table s (duplicate t) := by
  refine (Change.silenced _).after (setSwitchPending_changes _ ?_)
  split
  · exact leaveShared_changes _ h
  · exact setMode_changes nofun h

theorem goodFrame_changes (f : Frame) (inRange : 1 ≤ f.node.toNat) (h : Changes .table s t) :
    Changes .table s (goodFrame f t) := by
  have counted : Changes .table s (t.withTally { t.tally with goodReceived := t.tally.goodReceived + 1 }) :=
    withTally_changes _ Iff.rfl rfl h
  unfold goodFrame
  dsimp only
  split
  · split
    · exact withTally_changes _ Iff.rfl rfl counted
    · exact duplicate_changes (withTally_changes _ Iff.rfl rfl counted)
  · next other =>
    refine takeFrame_changes f ?_ counted
    have own : 1 ≤ t.nodeNumber := Nat.le_add_left 1 _
    simp only [withTally_reads]
    omega

theorem expire_changes {n : Nat} {f : LiveFields} (live : (t.peers.entry n).status = .live f) (h : Changes .table s t) :
    Changes .table s (expire n f t) := by
  have expired : Changes .table s (raise .peerLost (setFlag .peerLost
      (noteLiveCount (setEntry n { t.peers.entry n with status := .expired } t)))) :=
    (Change.raised _ .peerLost .peerLost rfl (by decide)).after
      (noteLiveCount_changes (setEntry_changes (.inr (by simp [Entry.isLive, live])) nofun h))
  refine aloneIfNone_changes ?_
  split
  · exact handAdoption_changes _ _ _ expired
  · exact expired

/-! ## The Pump Sequencer -/

theorem withPump_changes {x : PumpSequencer} (kept : PumpKept t x) (h : Changes b s t) : Changes b s (t.withPump x) :=
  (Change.pump x kept).after h

/-- A stroke that stands in its phase. -/
theorem pumpKept_of_stroke {x : PumpSequencer} (stroke : x.stroke = t.pump.stroke)
    (condition : x.condition = t.pump.condition)
    (behind : x.behind = t.pump.behind) (strained : x.strained = t.pump.strained) (confirmed : x.confirmed = t.pump.confirmed)
    (missed : x.missed = t.pump.missed) (history : x.history = t.pump.history) : PumpKept t x :=
  ⟨condition, behind, strained, confirmed, missed, history ▸ List.Sublist.refl _,
    fun k hk => .inr ⟨k, stroke ▸ hk, rfl, rfl⟩⟩

theorem enterPhase_changes (p : StrokePhase) (h : Changes b s t) : Changes b s (enterPhase p t) :=
  withPump_changes ⟨rfl, rfl, rfl, rfl, rfl, List.Sublist.refl _, fun k hk => .inl (by
    obtain ⟨k0, _, rfl⟩ := Option.map_eq_some_iff.1 hk
    rfl)⟩ h

theorem setCondition_changes {c : PumpCondition} (was : t.pump.condition ≠ .unset ∧ t.pump.condition ≠ .none)
    (new : c ≠ .unset ∧ c ≠ .none) (h : Changes b s t) :
        Changes b s (setCondition c t) := (Change.condition c was new).after h

theorem confirmPrime_changes (v : Bool) (h : Changes b s t) : Changes b s (confirmPrime v t) := by
  have counted : Changes b s (t.withPump { t.pump with primed := t.pump.primed + 1 }) :=
    withPump_changes (pumpKept_of_stroke rfl rfl rfl rfl rfl rfl rfl) h
  simp only [confirmPrime]
  split
  · next priming =>
    have isPriming : t.pump.condition = .priming := by
      simp only [Bool.and_eq_true] at priming
      simpa using priming.2
    have fewer : Changes b s ((t.withPump { t.pump with primed := t.pump.primed + 1 }).withPump
        { t.pump with primed := t.pump.primed + 1, primeRemaining := t.pump.primeRemaining - 1 }) :=
      withPump_changes (pumpKept_of_stroke rfl rfl rfl rfl rfl rfl rfl) counted
    split
    · exact setCondition_changes (by simp [isPriming]) (by decide) fewer
    · exact fewer
  · exact counted

/-! The interval's stroke figure and its flags move independently of one another, so the count of a stroke may be taken before the
debit or after it. -/

section
variable {f : CurrentInterval → CurrentInterval}
  (apart : ∀ i m, f { i with flags := i.flags ||| m } = { f i with flags := (f i).flags ||| m })
include apart

theorem setLevelFlag_onInterval (c : Cond) (x : Flag) (v : Bool) (s : State) :
    setLevelFlag c x v (onInterval f s) = onInterval f (setLevelFlag c x v s) := by
  have flagged : setFlag x (onInterval f s) = onInterval f (setFlag x s) := by
    simp only [setFlag, onInterval, State.withStore, Option.map_map, Function.comp_def, apart]
  have flag : ∀ w, setFlagIf w x (onInterval f s) = onInterval f (setFlagIf w x s) := by
    intro w
    cases w
    · rfl
    · exact flagged
  have level : ∀ u, setLevel c v (onInterval f u) = onInterval f (setLevel c v u) := by
    intro u
    simp only [setLevel, onInterval_reads]
    (repeat' split) <;> rfl
  simp only [setLevelFlag, onInterval_reads, flag, level]

theorem setDebt_onInterval (x : Nat) (s : State) : setDebt x (onInterval f s) = onInterval f (setDebt x s) := by
  have tested : ∀ u, testWatermarks (onInterval f u) = onInterval f (testWatermarks u) := by
    intro u
    simp only [testWatermarks, onInterval_frame]
    split <;> rfl
  have moved : (onInterval f s).withDose { s.dose with debt := x } =
      onInterval f (s.withDose { s.dose with debt := x }) := rfl
  simp only [setDebt, onInterval_frame, moved, tested, reportPump, setLevelFlag_onInterval apart]
  split <;> rfl

end

theorem confirmDosing_eq (s : State) : confirmDosing s = debit (countStroke s) := by
  have apart : ∀ (i : CurrentInterval) (m : BitVec 17),
      ({ i with flags := i.flags ||| m, strokes := i.strokes + 1 } : CurrentInterval) =
      { i with strokes := i.strokes + 1, flags := i.flags ||| m } := fun _ _ => rfl
  unfold confirmDosing debit
  dsimp only
  rw [← setDebt_onInterval apart]
  simp [countStroke, onInterval, addDelivered, State.withStore, State.withDose, State.withPump, State.withFilter,
      Function.comp_def]

theorem confirmStroke_changes {k : Stroke} (stroke : t.pump.stroke = some k) (h : Changes b s t) :
    Changes b s (confirmStroke k t) := by
  have confirmed : Changes b s (t.withPump { t.pump with missCount := 0, stroke := some { k with confirmed := true } }) :=
    withPump_changes ⟨rfl, rfl, rfl, rfl, rfl, List.Sublist.refl _,
        fun k1 hk => .inr ⟨k, stroke, by cases hk; exact ⟨rfl, rfl⟩⟩⟩ h
  simp only [confirmStroke]
  split
  · exact confirmPrime_changes _ confirmed
  · rw [confirmDosing_eq]
    exact debit_changes ((Change.confirmed _).after confirmed)

theorem enterFault_changes (was : t.pump.condition ≠ .unset ∧ t.pump.condition ≠ .none) (h : Changes b s t) :
    Changes b s (enterFault t) := release_changes (setCondition_changes was (by decide) h)

theorem missStroke_changes (h : Changes b s t) : Changes b s (missStroke t) := by
  have missed : Changes b s (countMiss t) := (Change.missed t).after h
  have more : Changes b s
      ((countMiss t).withPump { (countMiss t).pump with missCount := (countMiss t).pump.missCount + 1 }) :=
    withPump_changes (pumpKept_of_stroke rfl rfl rfl rfl rfl rfl rfl) missed
  have faults (c : PumpCondition) (condition : t.pump.condition = c) (notUnset : c ≠ .unset ∧ c ≠ .none) :=
    enterFault_changes (t := (countMiss t).withPump _) (condition ▸ notUnset) more
  show Changes b s (match (countMiss t).pump.condition with
    | .priming => _ | .available => _ | .held => _ | .unset => _ | .none => _ | .fault => _)
  split
  · next priming => exact faults _ priming (by decide)
  · next available =>
    split
    · exact faults _ available (by decide)
    · exact more
  · split
    · exact more
    · exact missed
  · exact missed
  · exact missed
  · exact missed

theorem strayPulse_changes (h : Changes b s t) : Changes b s (strayPulse t) :=
  withPump_changes (pumpKept_of_stroke rfl rfl rfl rfl rfl rfl rfl) h

theorem takePulse_changes (h : Changes b s t) : Changes b s (takePulse t) := by
  unfold takePulse
  split
  · next k stroke =>
    split
    · exact strayPulse_changes h
    · split
      · exact confirmStroke_changes stroke h
      · exact enterPhase_changes _ (confirmStroke_changes stroke h)
      · exact strayPulse_changes h
      · exact strayPulse_changes h
  · exact strayPulse_changes h

/-! ## The filter -/

theorem nextAverage_le {average sample shift : Nat} (ha : average ≤ 1024000) (hs : sample ≤ 4000) :
    nextAverage average sample shift ≤ 1024000 := by
  have unit : (1 : Int) ≤ (2 ^ shift : Nat) := by exact_mod_cast Nat.one_le_two_pow
  have step : ((sample : Int) * 256 - average) / (2 ^ shift : Nat) ≤ 1024000 - average := by
    refine (Int.ediv_le_ediv (by omega) (show (sample : Int) * 256 - average ≤ 1024000 - average by omega)).trans ?_
    exact Int.ediv_le_self _ (by omega)
  unfold nextAverage
  omega

theorem takeSample_changes (h : Changes b s t) : Changes b s (takeSample t) :=
  (Change.filter (s := t) (takeSample t).filter ⟨rfl, rfl, .inl rfl, fun bounded =>
    ⟨nextAverage_le bounded.1 (Nat.min_le_right _ _), Nat.min_le_right _ _⟩⟩).after h

theorem periodEnd_changes (due : t.periodDue = true) (h : Changes b s t) : Changes b s (periodEnd t) := by
  have next := (Change.filter (scope := b) (s := t) (reschedulePeriod t).filter ⟨rfl, rfl, .inr ⟨due, rfl⟩, id⟩).after h
  obtain below | reached := Nat.lt_or_ge t.filter.volume.toNat (t.cfg.vmin * 1000000)
  · rw [periodEnd_of_below below]
    exact (Change.filter (s := reschedulePeriod t)
        (carryPeriod (reschedulePeriod t)).filter ⟨rfl, rfl, .inl rfl, id⟩).after next
  · rw [periodEnd_of_reached reached]
    exact (Change.dwell _).after ((Change.throttle _).after (takeSample_changes next))

/-! ## The cycle end -/

theorem raiseIf_changes {v : Bool} {c : Cond} {f : Flag} (flag : f.condition = some c) (event : c.bit &&& levelConditions = 0)
    (h : Changes b s t) : Changes b s (raiseIf v c f t) := by
  unfold raiseIf
  split
  · exact (Change.raised t c f flag event).after h
  · exact h

theorem closeCycle_changes (h : Changes b s t) : Changes b s (closeCycle t) :=
  raiseIf_changes rfl (by decide) (raiseIf_changes rfl (by decide) (withPulse_changes _ h))

theorem setFlagIf_changes {v : Bool} {f : Flag} (flag : f.condition = none ∧ f ≠ .solo ∧ f ≠ .parked)
    (h : Changes .cycle s t) : Changes .cycle s (setFlagIf v f t) := by
  unfold setFlagIf
  split
  · exact (Change.givenFlag t f rfl flag).after h
  · exact h

theorem reportGiven_changes (q : Quantity) (g : Given) (m : Bool) (h : Changes .cycle s t) :
    Changes .cycle s (reportGiven q g m t) := by
  refine (Change.given _ q _ rfl).after (setFlagIf_changes ?_ (setFlagIf_changes ?_ (setFlagIf_changes ?_ h))) <;>
    cases q <;> decide

theorem giveValues_changes (h : Changes .cycle s t) : Changes .cycle s (giveValues t) :=
  withSensor_changes _ (reportGiven_changes _ _ _ (reportGiven_changes _ _ _ h))

theorem convert_changes (r : CycleRecord) (p q : Given) (h : Changes .cycle s t) : Changes .cycle s (convert r p q t) :=
  ownCycleEvent_changes _ _ (addHeader_changes _ ((Change.counted _ _ _ rfl).after (withConv_changes _ h)))

theorem pollDue_changes (h : Changes b s t) : Changes b s (pollDue t) := by
  unfold pollDue
  split
  · exact withSensor_changes _ h
  · exact withSensor_changes _ h

theorem cycleEnd_changes (h : Changes .cycle s t) : Changes .cycle s (cycleEnd t) :=
  pollDue_changes (convert_changes _ _ _ (giveValues_changes (closeCycle_changes h)))

/-! ## The port -/

theorem recordCommand_changes (c : Byte) (r : CommandResult) (i : Nat) (h : Changes b s t) :
    Changes b s (recordCommand c r i t) := recordCommand_eq c r i t ▸ withPort_changes _ h

theorem enterPriming_changes (was : t.pump.condition ≠ .unset ∧ t.pump.condition ≠ .none) (h : Changes b s t) :
    Changes b s (enterPriming t) :=
  withPump_changes (pumpKept_of_stroke rfl rfl rfl rfl rfl rfl rfl) (setCondition_changes was (by decide) h)

theorem park_changes (h : Changes .table s t) : Changes .table s (park t) :=
  fallDue_changes _ (release_changes (setSwitchPending_changes _ (setMode_changes nofun h)))

theorem done_changes (c : Byte) (h : Changes b s t) : Changes b s (done c t) := recordCommand_changes _ _ _ h

theorem refuseState_changes (c : Byte) (h : Changes b s t) : Changes b s (refuseState c t) := recordCommand_changes _ _ _ h

end

/-! ## The commands -/

/-- The commands that are no chain of elementary changes: those that set blocks anew, close the interval, or clear latches. -/
def setsAnew : Instr → Bool
  | .coldReset .. | .start | .mark | .intervalTimerExpiry | .clearLatches => true
  | _ => false

/-- The scope of a command's chain. -/
def scopeOf : Instr → Scope
  | .cycleTimerExpiry => .cycle
  | .frameEnd .. | .frameSent | .peerExpiry _ | .unheard | .leave | .join => .table
  | _ => .plain

/-- A good frame bears a node number of 1 to 16 (R53). -/
theorem node_of_judge_good {bytes : List Byte} {x y : Bool} {f : Frame} (h : judge bytes x y = .good f) :
    1 ≤ f.node.toNat ∧ f.node.toNat ≤ 16 := by
  unfold judge at h
  split at h
  · cases h
  (repeat' split at h) <;> cases h <;> simp only [Frame.node, decodeTally, decodeLeave] <;> omega

/-- A command that moves nothing the blocks share. -/
theorem changes_of_quiet {i : Instr} {b : Scope} {s t : State} (h : exec i s = .next t)
    (parts : ∀ p ∈ movedParts i, p ∈ [Part.pulse, .sensor, .conv, .header, .timer, .ring, .cursor, .port]) :
        Changes b s t := by
  have same (p : Part) (free : p ∉ [Part.pulse, .sensor, .conv, .header, .timer, .ring, .cursor, .port]) : p.same s t :=
    exec_same h p fun moved => free (parts p moved)
  have outside := same .outside (by simp)
  have tally : t.tally = s.tally := same .tally (by simp)
  exact Changes.quiet .refl ⟨outside.1, outside.2.1, same .cfg (by simp), same .peers (by simp),
    same .dose (by simp), same .pump (by simp), same .filter (by simp), same .current (by simp), same .alarm (by simp),
    by rw [tally], by rw [tally]⟩

theorem exec_changes {i : Instr} {s t : State} (chain : setsAnew i = false) (h : exec i s = .next t) :
    Changes (scopeOf i) s t := by
  have start {b : Scope} {u : State} : Changes b u u := .refl
  cases i
  case coldReset | start | mark | intervalTimerExpiry | clearLatches => cases chain
  case pulseEdge change =>
    cases change with
    | high => exact changes_of_quiet h (by simp [movedParts])
    | low c =>
      cases c with
      | confirmation => cases h; exact withPump_changes (pumpKept_of_stroke rfl rfl rfl rfl rfl rfl rfl) start
      | a => exact changes_of_quiet h (by simp [movedParts])
      | b => exact changes_of_quiet h (by simp [movedParts])
  case busReleased | busHeld | stretchNotice | stretchAbort | addressNack | transactionEnd | recoveryEnd | status | totals |
      peer | record | nextRecord | config | configWrite | unrecognisedSelector | transactionAbandoned | unknown |
      commandSelector | writeEndedPartWay => exact changes_of_quiet h (by simp [movedParts])
  case cycleTimerExpiry =>
    simp only [exec, execCycleTimerExpiry] at h
    split at h <;> cases h
    · exact startIfChanged_changes _ (cycleEnd_changes start)
    · exact start
  case receiverSynced =>
    simp only [exec, execReceiverSynced] at h
    split at h <;> cases h
    · exact withTally_changes _ Iff.rfl rfl start
    · exact start
  case frameEnd bytes x y =>
    simp only [exec, execFrameEnd] at h
    split at h
    · split at h
      · cases h; exact withTally_changes _ Iff.rfl rfl start
      · split at h <;> cases h
        · exact withTally_changes _ Iff.rfl rfl (withTally_changes _ Iff.rfl rfl start)
        · next good =>
          exact startIfChanged_changes _
            (goodFrame_changes _ (node_of_judge_good good).1 (withTally_changes _ Iff.rfl rfl start))
    · cases h; exact start
  case tallyTimerExpiry =>
    simp only [exec, execTallyTimerExpiry] at h
    split at h
    · split at h <;> cases h
      · exact fallDue_changes _ (withTally_changes _ Iff.rfl rfl start)
      · exact withTally_changes _ Iff.rfl rfl start
    · cases h; exact start
  case lineIdle =>
    simp only [exec, execLineIdle] at h
    split at h <;> cases h
    · next defer => exact withTally_changes _ (by simp [defer]) rfl start
    · exact withTally_changes _ Iff.rfl rfl start
  case holdoffEnd =>
    simp only [exec, execHoldoffEnd] at h
    split at h <;> cases h
    · next holdoff => exact withTally_changes _ (by simp [holdoff.1]) rfl start
    · exact start
  case deferral =>
    simp only [exec, execDeferral] at h
    split at h <;> cases h
    · next holdoff => exact withTally_changes _ (by simp [holdoff]) rfl start
    · exact withTally_changes _ Iff.rfl rfl start
  case collision =>
    simp only [exec, execCollision] at h
    split at h
    · next sending =>
      split at h <;> cases h
      · exact loseAttempt_changes (by simp [sending]) (withTally_changes _ Iff.rfl rfl start)
      · exact abandonFrame_changes (by simp [sending]) (withTally_changes _ Iff.rfl rfl start)
    · cases h; exact start
  case frameSent =>
    simp only [exec, execFrameSent] at h
    split at h <;> cases h
    · next sending _ => exact startIfChanged_changes _ (frameIsSent_changes _ (by simp [sending]) start)
    · exact start
  case peerExpiry =>
    simp only [exec, execPeerExpiry] at h
    split at h
    · next live =>
      split at h <;> cases h
      · exact startIfChanged_changes _ (expire_changes live start)
      · exact start
    · cases h; exact start
  case unheard =>
    simp only [exec, execUnheard] at h
    split at h <;> cases h
    · exact startIfChanged_changes _ (leaveShared_changes _ start)
    · exact start
  case strokeStart | spacingRunsOut => cases h; exact testStart_changes start
  case fillEnd =>
    simp only [exec, execFillEnd] at h
    split at h <;> cases h
    · exact enterPhase_changes _ start
    · exact start
  case driveEnd =>
    simp only [exec, execDriveEnd] at h
    split at h
    · next stroke =>
      split at h
      · split at h
        · cases h; exact startIfChanged_changes _ (enterPhase_changes _ (confirmStroke_changes stroke start))
        · split at h <;> cases h <;> exact enterPhase_changes _ start
      · cases h; exact start
    · cases h; exact start
  case confirmationPulse =>
    have level : Changes .plain s (s.withPump { s.pump with level := true }) :=
      withPump_changes (pumpKept_of_stroke rfl rfl rfl rfl rfl rfl rfl) start
    simp only [exec, execConfirmationPulse] at h
    split at h
    · cases h; exact start
    · split at h <;> cases h
      · exact level
      · exact startIfChanged_changes _ (takePulse_changes level)
  case confirmWindowExpiry =>
    simp only [exec, execConfirmWindowExpiry] at h
    split at h <;> cases h
    · exact startIfChanged_changes _ (missStroke_changes (enterPhase_changes _ start))
    · exact start
  case recoverEnd =>
    simp only [exec, execRecoverEnd] at h
    split at h <;> cases h
    · exact startIfChanged_changes _ (withPump_changes ⟨rfl, rfl, rfl, rfl, rfl, List.Sublist.refl _, nofun⟩ start)
    · exact start
  case historyEntryLeaves =>
    simp only [exec, execHistoryEntryLeaves] at h
    split at h <;> cases h
    · exact startIfChanged_changes _ (withPump_changes
        ⟨rfl, rfl, rfl, rfl, rfl, List.tail_sublist _, fun k hk => .inr ⟨k, hk, rfl, rfl⟩⟩ start)
    · exact start
  case periodTimerExpiry =>
    simp only [exec, execPeriodTimerExpiry] at h
    split at h <;> cases h
    · next due => exact startIfChanged_changes _ (periodEnd_changes due start)
    · exact start
  case lowDwellExpiry =>
    simp only [exec, execLowDwellExpiry] at h
    split at h <;> cases h
    · exact (Change.dwellEnds s).after start
    · exact start
  case hold =>
    simp only [exec, execHold] at h
    split at h <;> cases h
    · next taken =>
      have was : s.pump.condition ≠ .unset ∧ s.pump.condition ≠ .none := by
        constructor <;> intro condition <;> simp [condition, PumpCondition.mayHold] at taken
      exact done_changes _ (startIfChanged_changes _ (release_changes (setCondition_changes was (by decide) start)))
    · exact refuseState_changes _ start
  case resume =>
    simp only [exec, execResume] at h
    split at h <;> cases h
    · next taken => exact done_changes _ (startIfChanged_changes _ (enterPriming_changes (by simp [taken.2]) start))
    · exact refuseState_changes _ start
  case pumpReset =>
    simp only [exec, execPumpReset] at h
    split at h <;> cases h
    · next taken => exact done_changes _ (startIfChanged_changes _ (enterPriming_changes (by simp [taken.2]) start))
    · exact refuseState_changes _ start
  case leave =>
    simp only [exec, execLeave] at h
    split at h <;> cases h
    · exact done_changes _ (startIfChanged_changes _ (park_changes start))
    · exact refuseState_changes _ start
  case join =>
    simp only [exec, execJoin] at h
    split at h <;> cases h
    · exact done_changes _ (startIfChanged_changes _ (setMode_changes nofun start))
    · exact refuseState_changes _ start

end Sys2Proof.Machine
end

section
/-! START accepted (R180, R181): what it makes of every block, from every state in CONFIG, and from a state that stands at its
cold-reset values (R142). -/

namespace Sys2Proof.Machine

/-! ## The blocks after START -/

theorem startNode_cfg (s : State) : (startNode s).cfg = readBlock s.port.block := by simp [startNode, takeConfiguration]

theorem startNode_port (s : State) : (startNode s).port = { s.port with blockState := .locked } := by
  simp [startNode, takeConfiguration]

theorem startNode_masks (s : State) :
    (startNode s).alarm.mask1 = BitVec.ofNat 16 (fieldAt s.port.block 145 2) ∧
      (startNode s).alarm.mask2 = BitVec.ofNat 16 (fieldAt s.port.block 147 2) := by
  simp [startNode, takeConfiguration, beginTransaction, setTransmitter]
  exact ⟨rfl, rfl⟩

theorem startNode_pulse (s : State) : (startNode s).pulse =
    { s.pulse with cycleStart := some s.clock, a := 0, b := 0, satA := false, satB := false, preStart := 0 } := by
  simp [startNode, startMeasurement]

theorem startNode_conv (s : State) : (startNode s).conv =
    { s.conv with q := 0, cmin := (readBlock s.port.block).cmin, cmax := (readBlock s.port.block).cmax } := by
  simp [startNode, startMeasurement, takeConfiguration]

theorem startNode_sensor (s : State) : (startNode s).sensor =
    { s.sensor with
      pressure := { s.sensor.pressure with phase := .startCheck, checkStart := s.clock, stretchNotice := false } } := by
  simp [startNode, beginTransaction, setTransmitter, SensorBus.set, SensorBus.of]

theorem startNode_tally (s : State) :
    (startNode s).tally = { s.tally with receiver := .syncing, timerStart := some s.clock } := by
  simp [startNode, startSharing]

theorem startNode_peers (s : State) :
    (startNode s).peers = { s.peers with mode := .solo .starting, switchPending := false, lastSharedDebt := 0 } := by
  simp [startNode, startSharing, setMode_peers]

theorem startNode_pump (s : State) : (startNode s).pump =
    { s.pump with condition := if (readBlock s.port.block).capacityClass = 0 then .none else .priming, missCount := 0,
                  primeRemaining := (readBlock s.port.block).primeCount, behind := false, strained := false } := by
  simp [startNode, startPump, takeConfiguration]

theorem startNode_filter (s : State) : (startNode s).filter =
    { s.filter with average := (readBlock s.port.block).doseTarget * 256, periodStart := some s.clock } := by
  simp [startNode, startFilter, takeConfiguration]

theorem startNode_timerStart (s : State) : (startNode s).store.timerStart = some s.clock := by
  simp [startNode, startIntervals]

@[simp] theorem takeConfiguration_cfg (s : State) : (takeConfiguration s).cfg = readBlock s.port.block := rfl

/-- A pump starts in NONE or in PRIMING (R119). -/
theorem startCondition_quiet (capacity : Nat) : ((if capacity = 0 then PumpCondition.none else .priming) == .fault) = false ∧
    ((if capacity = 0 then PumpCondition.none else .priming) == .available) = false := by
  split <;> decide

theorem startNode_isTrue (c : Cond) (s : State) : (startNode s).isTrue c =
    if c = .alone ∨ c = .unheard ∨ c = .pumpFault ∨ c = .pumpStrained then false else s.isTrue c := by
  have config : ∀ z, (takeConfiguration s).isTrue z = s.isTrue z := fun _ => rfl
  have check : ∀ z u, (beginTransaction .pressure u).isTrue z = u.isTrue z := fun _ _ => rfl
  cases c <;>
    simp [startNode, startPump, startSharing, reportPump_isTrue, setMode_isTrue, config, check, startCondition_quiet]

/-- The interval that START opens (R162): no pump condition is true at its opening. -/
theorem startNode_current {s : State} (clear : s.filter.throttled = false) : (startNode s).store.current = some
    { openTime := s.clock, startActual := litres s.conv.actual, startBase := litres s.conv.base,
      startHeader := litres s.store.header, cycles := 0, sumPf := 0, sumTf := 0, delivered := 0, charged := 0,
      adopted := 0, released := 0, surrendered := 0, waived := 0, undosed := 0, strokes := 0, missed := 0,
      leastLive := s.peers.liveCount, flags := Flag.solo.bit } := by
  generalize opened : startFilter (startPump (startSharing (beginTransaction .pressure (startMeasurement
    (takeConfiguration s))))) = u
  have node : startNode s = startIntervals u := by rw [startNode, opened]
  have clock : u.clock = s.clock := by simp [← opened]
  have conv : u.conv.actual = s.conv.actual ∧ u.conv.base = s.conv.base := by
    rw [show u.conv = (startNode s).conv by simp [node], startNode_conv]
    exact ⟨rfl, rfl⟩
  have header : u.store.header = s.store.header := by simp [← opened]
  have peers : u.peers = (startNode s).peers := by simp [node]
  have throttled : u.filter.throttled = false := by
    rw [show u.filter = (startNode s).filter by simp [node], startNode_filter]
    exact clear
  have fault : u.isTrue .pumpFault = false := by
    rw [show u.isTrue .pumpFault = (startNode s).isTrue .pumpFault by simp [node], startNode_isTrue]
    simp
  have strained : u.isTrue .pumpStrained = false := by
    rw [show u.isTrue .pumpStrained = (startNode s).isTrue .pumpStrained by simp [node], startNode_isTrue]
    simp
  have flags : (u.withStore { u.store with timerStart := some u.clock }).openingFlags = Flag.solo.bit := by
    simp [State.openingFlags, peers, startNode_peers, Mode.isSolo, fault, strained, throttled]
  rw [node, startIntervals, openInterval, flags]
  simp [clock, conv, header, peers, startNode_peers, PeerTable.liveCount]

theorem startNode_store_eq (s : State) :
    (startNode s).store = { s.store with timerStart := some s.clock, current := (startNode s).store.current } := by
  have header := startNode_store s
  have timer := startNode_timerStart s
  generalize (startNode s).store = x at *
  obtain ⟨timerStart, current, header, ring, nextSequence, cursor⟩ := x
  simp_all

/-! ## START from the cold-reset values -/

theorem setLevel_false_of_not {c : Cond} {s : State} (h : s.isTrue c = false) : setLevel c false s = s := by
  simp [setLevel, h]

/-- A pump that is neither in FAULT nor AVAILABLE has nothing to report where neither condition is true. -/
theorem reportPump_alarm_of_quiet {s : State} (fault : (s.pump.condition == .fault) = false)
    (available : (s.pump.condition == .available) = false) (quiet : ∀ c, s.isTrue c = false) :
    (reportPump s).alarm = s.alarm := by
  simp [reportPump, setLevelFlag, setFlagIf, fault, available, setLevel_false_of_not, quiet]

theorem setMode_starting_alarm_of_quiet {s : State} (quiet : ∀ c, s.isTrue c = false) :
    (setMode (.solo .starting) s).alarm = s.alarm := by
  have notAlone : (Mode.solo .starting == Mode.solo .alone) = false := rfl
  have notUnheard : (Mode.solo .starting == Mode.solo .unheard) = false := rfl
  simp [setMode, setLevel_false_of_not, quiet, notAlone, notUnheard]

/-- START from an Alarm Unit with no condition true: no block reports one. -/
theorem startNode_alarm_of_quiet {s : State} (quiet : ∀ c, s.isTrue c = false) :
    (startNode s).alarm = (takeConfiguration s).alarm := by
  have configured : ∀ c, (beginTransaction .pressure (startMeasurement (takeConfiguration s))).isTrue c = false := quiet
  generalize shared : startSharing (beginTransaction .pressure (startMeasurement (takeConfiguration s))) = u
  have sharedAlarm : u.alarm = (takeConfiguration s).alarm := by
    rw [← shared, startSharing, setMode_starting_alarm_of_quiet (by simpa using configured)]
    rfl
  have sharedQuiet : ∀ c, u.isTrue c = false := fun c => by rw [State.isTrue, sharedAlarm]; exact quiet c
  simp only [startNode, shared, startIntervals_frame, startFilter_frame]
  rw [startPump, reportPump_alarm_of_quiet]
  · exact sharedAlarm
  · exact (startCondition_quiet _).1
  · exact (startCondition_quiet _).2
  · exact sharedQuiet

/-- The pump that START makes, of a class 1 or above, may start its first prime stroke at once (R142). -/
theorem startNode_mayStart {s : State} (pump : s.pump = PumpSequencer.reset s.pump.level)
    (count : 0 < (readBlock s.port.block).primeCount) (cap : 0 < (readBlock s.port.block).windowCap) :
    (startNode s).mayStart = true ↔ (readBlock s.port.block).capacityClass ≠ 0 := by
  have condition : (startNode s).pump.condition = .priming ↔ (readBlock s.port.block).capacityClass ≠ 0 := by
    rw [startNode_pump]
    split <;> simp [*]
  have notAvailable : (startNode s).pump.condition ≠ .available := by
    rw [startNode_pump]
    split <;> simp
  have conditions := mayStart_iff (startNode s)
  simp only [condition, notAvailable, false_and, false_or] at conditions
  rw [conditions, startNode_pump, startNode_peers, startNode_cfg, pump]
  simp [PumpSequencer.reset, Mode.isActive, count, cap]

/-- Settles O6. -/
theorem startStartsEveryBlock : Obligations.StartStartsEveryBlock := by
  intro s cold config written crc fields
  obtain ⟨cfg, pulse, -, sensor, conv, tally, peers, dose, pump, filter, store, -, alarm⟩ := cold config
  have accepted : s.startRefusal = none := by
    simp [State.startRefusal, config, written, (blockCrcGood_iff _).2 crc, firstFailing_eq_none fields]
  have runs : exec .start s = .next (done codeStart (startIfChanged s (startNode s))) := by
    simp only [exec, execStart, accepted]
  refine ⟨_, runs, ?_⟩
  have count : 0 < (readBlock s.port.block).primeCount := by
    have check := fields 49 (by decide) (by decide)
    simp only [checkField, checkScalar, within] at check
    simp at check
    omega
  have cap : 0 < (readBlock s.port.block).windowCap := by
    have check := fields 47 (by decide) (by decide)
    simp only [checkField, checkScalar, within] at check
    simp at check
    omega
  have may := startNode_mayStart pump count cap
  have tested : startIfChanged s (startNode s) = if (startNode s).mayStart then
      (startNode s).withPump ((startNode s).pump.begun s.clock) else startNode s := by
    have changed : (startNode s).startInputs ≠ s.startInputs := by
      simp [State.startInputs, startNode_peers, config]
    simpa using startIfChanged_eq_of_changed changed
  simp only [done, recordCommand_eq]
  refine ⟨by simp [startNode_cfg], by simp [startNode_port, SupervisoryPort.recorded, codeStart], by simp [startNode_masks],
    by simp [startNode_masks], ?_⟩
  have quiet : ∀ c, s.isTrue c = false := fun c => by simp [State.isTrue, alarm, AlarmUnit.reset]
  have unchanged : (startNode s).alarm.conditions = 0 ∧ (startNode s).alarm.latches = 0 := by
    rw [startNode_alarm_of_quiet quiet]
    simp [takeConfiguration, alarm, AlarmUnit.reset]
  have current := startNode_current (s := s) (by simp [filter, ConcentrationFilter.reset])
  refine ⟨by simpa using unchanged.1, by simpa using unchanged.2, ?pulse, ?sensor, ?conv, ?tally, ?peers, ?dose, ?filter,
      ?store, ?none, ?prime⟩
  case pulse =>
    have counts : s.pulse.a = 0 ∧ s.pulse.b = 0 ∧ s.pulse.satA = false ∧ s.pulse.satB = false := by
      rw [pulse]
      exact ⟨rfl, rfl, rfl, rfl⟩
    simp [startNode_pulse, counts]
  case sensor => simp [startNode_sensor, sensor, SensorBus.reset, Transmitter.reset]
  case conv => simp [startNode_conv, startNode_cfg, conv, ConversionUnit.reset]
  case tally => simp [startNode_tally]
  case peers => simp [startNode_peers, peers, PeerTable.reset]
  case dose => simp
  case filter => simp [startNode_filter, startNode_cfg]
  case store =>
    rw [show ∀ x, ((startIfChanged s (startNode s)).withPort x).store = (startNode s).store from fun _ => by simp,
      startNode_store_eq, current]
    simp [conv, store, peers, ConversionUnit.reset, IntervalStore.reset, litres, PeerTable.liveCount, PeerTable.reset,
      Entry.isLive, Entry.absent]
  case none =>
    intro classless
    have zero : (readBlock s.port.block).capacityClass = 0 := by simpa [startNode_cfg] using classless
    rw [tested, if_neg (by simp [may, zero])]
    simp only [State.withPort_pump, startNode_pump, startNode_cfg, State.withPort_cfg, zero, if_true]
    rw [pump]
    rfl
  case prime =>
    intro class_
    have positive : (readBlock s.port.block).capacityClass ≠ 0 := by simpa [startNode_cfg] using class_
    rw [tested, if_pos (may.2 positive)]
    simp only [State.withPort_pump, State.withPump_pump, startNode_pump, startNode_cfg, State.withPort_cfg,
        State.withPump_cfg, positive, if_false]
    rw [pump]
    rfl

end Sys2Proof.Machine
end

section
/-! The conditions that every step keeps, each by one case analysis over the elementary changes: the debt below its ceiling, the
remainders and the average, the marks and the history of the pump, the latches, the level conditions with their owners, and the
own number's place in the Peer Table. -/

namespace Sys2Proof.Machine

/-! ## The commands as chains -/

theorem exec_start_cases (s : State) : (∃ r i, exec .start s = .next (recordCommand codeStart r i s)) ∨
    (s.startRefusal = none ∧ exec .start s = .next (done codeStart (startIfChanged s (startNode s)))) := by
  cases refusal : s.startRefusal with
  | none => exact .inr ⟨rfl, by simp only [exec, execStart, refusal]⟩
  | some x => exact .inl ⟨x.1, x.2, by simp only [exec, execStart, refusal]⟩

/-- START is accepted only in CONFIG and with every field's check passed (R180). -/
theorem accepted_iff (s : State) : s.startRefusal = none ↔ s.peers.mode = .config ∧ s.port.blockState ≠ .absent ∧
    blockCrcGood s.port.block = true ∧ ∀ i, 1 ≤ i → i ≤ 60 → checkField (readBlock s.port.block) i = true := by
  have passed : firstFailing (readBlock s.port.block) = none ↔
      ∀ i, 1 ≤ i → i ≤ 60 → checkField (readBlock s.port.block) i = true := by
    refine ⟨fun none_ i low high => ?_, firstFailing_eq_none⟩
    have check := List.find?_eq_none.1 none_ i (List.mem_range'_1.2 ⟨low, by omega⟩)
    simpa using check
  rw [← passed, State.startRefusal]
  split
  · next started => simp [started]
  · next config =>
    simp only [not_not] at config
    split
    · next absent => simp [absent]
    · next present =>
      split
      · next bad => simp [bad]
      · next good => cases first : firstFailing (readBlock s.port.block) <;> simp_all

theorem Changes.keeps {b : Scope} {P : State → Prop} (each : ∀ {s t}, Change b s t → P s → P t) {s t : State}
    (h : Changes b s t) (hs : P s) : P t := by
  induction h with
  | refl => exact hs
  | tail _ last ih => exact each last ih

@[simp] theorem resetNode_frame (n : BitVec 4) (a : BitVec 2) (x y z : Bool) (s : State) :
    (resetNode n a x y z s).cfg = Cfg.none ∧ (resetNode n a x y z s).conv = ConversionUnit.reset ∧
      (resetNode n a x y z s).tally = TallyLine.reset ∧ (resetNode n a x y z s).peers = PeerTable.reset ∧
      (resetNode n a x y z s).dose = DoseAccounting.reset ∧ (resetNode n a x y z s).pump = PumpSequencer.reset z ∧
      (resetNode n a x y z s).sensor = SensorBus.reset ∧ (resetNode n a x y z s).filter = ConcentrationFilter.reset ∧
      (resetNode n a x y z s).store = IntervalStore.reset ∧ (resetNode n a x y z s).alarm = AlarmUnit.reset :=
  ⟨rfl, rfl, rfl, rfl, rfl, rfl, rfl, rfl, rfl, rfl⟩

/-- What keeps a condition under every command: that each elementary change keeps it, and so do a cold reset, START, the close of
an interval and CLEAR_LATCHES. -/
theorem exec_keeps_of {P : State → Prop} {i : Instr} {s t : State} (each : ∀ {b s t}, Change b s t → P s → P t)
    (reset : ∀ n a x y z, i = .coldReset n a x y z → P (resetNode n a x y z s))
        (start : s.startRefusal = none → P (startNode s))
    (store : ∀ x : IntervalStore, x.current.isSome = true ∨ x.current = s.store.current → P (s.withStore x))
        (clear : P (clearLatches s)) (h : exec i s = .next t) (hs : P s) : P t := by
  have chain {b : Scope} {u v : State} : Changes b u v → P u → P v := Changes.keeps each
  cases anew : setsAnew i with
  | false => exact chain (exec_changes anew h) hs
  | true =>
    cases i
    case coldReset => cases h; exact reset _ _ _ _ _ rfl
    case start =>
      obtain ⟨r, i, refused⟩ | ⟨accepted, runs⟩ := exec_start_cases s
      · cases refused.symm.trans h
        exact chain (recordCommand_changes (b := .plain) _ _ _ .refl) hs
      · cases runs.symm.trans h
        exact chain (done_changes (b := .plain) _ (startIfChanged_changes _ .refl)) (start accepted)
    case mark =>
      simp only [exec, execMark] at h
      split at h <;> cases h
      · refine chain (done_changes (b := .plain) _ .refl) ?_
        unfold closeInterval
        split
        · exact store _ (.inl rfl)
        · exact hs
      · exact chain (refuseState_changes (b := .plain) _ .refl) hs
    case intervalTimerExpiry =>
      simp only [exec, execIntervalTimerExpiry] at h
      split at h <;> cases h
      · unfold closeInterval
        split
        · exact store _ (.inl rfl)
        · exact store _ (.inr rfl)
      · exact hs
    case clearLatches => cases h; exact chain (done_changes (b := .plain) _ .refl) clear
    all_goals cases anew

/-! ## The ceiling of the debt -/

@[simp] theorem countStroke_frame (s : State) : (countStroke s).clock = s.clock ∧ (countStroke s).nodeStraps = s.nodeStraps ∧
    (countStroke s).cfg = s.cfg ∧ (countStroke s).peers = s.peers ∧ (countStroke s).dose = s.dose ∧
    (countStroke s).filter = s.filter ∧ (countStroke s).tally = s.tally ∧ (countStroke s).alarm = s.alarm ∧
    (countStroke s).pump = { s.pump with confirmed := s.pump.confirmed + 1 } ∧
    (∀ z, (countStroke s).isTrue z = s.isTrue z) ∧ (∀ z, (countStroke s).isLatched z = s.isLatched z) := by
  simp [countStroke]

@[simp] theorem countMiss_frame (s : State) : (countMiss s).clock = s.clock ∧ (countMiss s).nodeStraps = s.nodeStraps ∧
    (countMiss s).cfg = s.cfg ∧ (countMiss s).peers = s.peers ∧ (countMiss s).dose = s.dose ∧
    (countMiss s).filter = s.filter ∧ (countMiss s).tally = s.tally ∧ (countMiss s).alarm = s.alarm ∧
    (countMiss s).pump = { s.pump with missed := s.pump.missed + 1 } ∧
    (∀ z, (countMiss s).isTrue z = s.isTrue z) ∧ (∀ z, (countMiss s).isLatched z = s.isLatched z) := by
  simp [countMiss]

@[simp] theorem book_frame (x : DoseAccounting) (s : State) : (book x s).clock = s.clock ∧ (book x s).nodeStraps =
    s.nodeStraps ∧
    (book x s).cfg = s.cfg ∧ (book x s).peers = s.peers ∧ (book x s).dose = x ∧ (book x s).pump = s.pump ∧
    (book x s).filter = s.filter ∧ (book x s).tally = s.tally ∧ (book x s).alarm = s.alarm ∧
    (∀ z, (book x s).isTrue z = s.isTrue z) ∧ (∀ z, (book x s).isLatched z = s.isLatched z) := by
  simp [book]

section
variable {b : Scope} {s t : State} (h : Change b s t)
include h

/-- The configuration, the clock and the straps stand through every elementary change. -/
theorem Change.frame : t.cfg = s.cfg ∧ t.clock = s.clock ∧ t.nodeStraps = s.nodeStraps := by
  cases h
  case quiet same => exact ⟨same.cfg, same.clock, same.straps⟩
  all_goals simp

theorem Change.debt_le : t.dose.debt ≤ s.dose.debt ∨ t.dose.debt ≤ s.ceilingDebt := by
  cases h
  case quiet same => exact .inl (same.dose ▸ le_rfl)
  case debt x bound => rwa [setDebt_dose]
  case book x booked => exact .inl (by simp [booked.debt])
  all_goals exact .inl (by simp [addReleased_dose])

theorem Change.debtBounded (hs : DebtBounded s) : DebtBounded t := by
  have ceiling : t.ceilingDebt = s.ceilingDebt := by rw [State.ceilingDebt, h.frame.1, State.ceilingDebt]
  rw [DebtBounded, ceiling]
  exact h.debt_le.elim (fun below => below.trans hs) id

theorem Change.remainders (hs : s.dose.r < chargeUnit ∧ s.dose.ru < chargeUnit) :
    t.dose.r < chargeUnit ∧ t.dose.ru < chargeUnit := by
  cases h
  case quiet same => rwa [same.dose]
  case debt => rwa [setDebt_dose]
  case book x booked => simpa using ⟨booked.r hs.1, booked.ru hs.2⟩
  all_goals simpa [addReleased_dose] using hs

theorem Change.averageBounded (hs : AverageBounded s) : AverageBounded t := by
  cases h
  case quiet same => rwa [AverageBounded, same.filter]
  case filter x kept => exact kept.bounded hs
  case throttle => simpa [AverageBounded, testThrottle_filter] using hs
  case dwell => simpa [AverageBounded, testDwell_filter_frame] using hs
  all_goals simpa [AverageBounded] using hs

end

/-- A condition that every command keeps is kept by a step, if neither the clock nor the queue bears on it. -/
theorem step_keeps_of_exec {P : State → Prop} {s t : State} (time : P (tick s))
    (queue : ∀ q n, P ((s.withPending q).withChoices n))
    (runs : ∀ i q n, exec i ((s.withPending q).withChoices n) = .next t → P ((s.withPending q).withChoices n) → P t)
    (h : step s = .next t) : P t := by
  obtain rfl | ⟨i, q, n, hi⟩ := step_cases h
  · exact time
  · exact runs i q n hi (queue q n)

theorem exec_debtBounded {i : Instr} {s t : State} (cold : ColdUntilStart s) (h : exec i s = .next t) (hs : DebtBounded s) :
    DebtBounded t := by
  refine exec_keeps_of Change.debtBounded (fun _ _ _ _ _ _ => Nat.zero_le _) (fun accepted => ?_) (fun _ _ => hs) hs h hs
  obtain ⟨-, -, -, -, -, -, -, dose, -⟩ := cold ((accepted_iff _).1 accepted).1
  simp [DebtBounded, dose, DoseAccounting.reset]

/-- Settles O16. -/
theorem stepKeepsDebtWithinCeiling : Obligations.StepKeepsDebtWithinCeiling := fun _ _ cold hs h =>
  step_keeps_of_exec (P := DebtBounded) hs (fun _ _ => hs) (fun _ _ _ => exec_debtBounded cold) h

/-! ## The remainders and the average -/

/-- The divisor of a conversion bounds the remainder it carries (R40). -/
theorem conversion_q_lt {s : State} (hs : s.conv.q < 65536) (r : CycleRecord) (p q : Given) :
    (s.conversion r p q).q < 65536 := by
  simp only [State.conversion]
  split
  · exact hs
  · exact Nat.mod_lt _ (by decide)

theorem exec_conv_bounded {i : Instr} {s t : State} (h : exec i s = .next t) (hs : s.conv.q < 65536) : t.conv.q < 65536 := by
  by_cases moved : Part.conv ∈ movedParts i
  · cases i
    case coldReset => cases h; simp [ConversionUnit.reset]
    case start =>
      obtain ⟨r, i, refused⟩ | ⟨-, runs⟩ := exec_start_cases s
      · cases refused.symm.trans h; simpa using hs
      · cases runs.symm.trans h; simp [done, startNode_conv]
    case cycleTimerExpiry =>
      simp only [exec, execCycleTimerExpiry] at h
      split at h <;> cases h
      · simp only [startIfChanged_frame, cycleEnd_conv]
        exact conversion_q_lt hs _ _ _
      · exact hs
    case pulseEdge change =>
      cases change with
      | high => simp [movedParts] at moved
      | low c => cases c <;> simp [movedParts] at moved
    all_goals simp [movedParts] at moved
  · rw [exec_same h .conv moved]
    exact hs

theorem exec_remainders {i : Instr} {s t : State} (h : exec i s = .next t)
    (hs : s.dose.r < chargeUnit ∧ s.dose.ru < chargeUnit) : t.dose.r < chargeUnit ∧ t.dose.ru < chargeUnit :=
  exec_keeps_of (P := fun s => s.dose.r < chargeUnit ∧ s.dose.ru < chargeUnit) Change.remainders
    (fun _ _ _ _ _ _ => by simp [DoseAccounting.reset, chargeUnit]) (fun _ => by simpa using hs) (fun _ _ => hs) hs h hs

theorem exec_averageBounded {i : Instr} {s t : State} (h : exec i s = .next t) (hs : AverageBounded s) :
    AverageBounded t := by
  refine exec_keeps_of Change.averageBounded (fun _ _ _ _ _ _ => by simp [AverageBounded, ConcentrationFilter.reset])
      (fun accepted => ?_) (fun _ _ => hs) hs h hs
  have check := ((accepted_iff s).1 accepted).2.2.2 32 (by decide) (by decide)
  have target : (readBlock s.port.block).doseTarget ≤ 500 := by
    simp only [checkField, checkScalar, within] at check
    simp at check
    omega
  simp only [AverageBounded, startNode_filter]
  exact ⟨by omega, hs.2⟩

/-- Settles O17. -/
theorem stepKeepsFiguresBounded : Obligations.StepKeepsFiguresBounded := fun _ _ remainders average h =>
  step_keeps_of_exec (P := fun s => RemaindersBounded s ∧ AverageBounded s) ⟨remainders, average⟩
    (fun _ _ => ⟨remainders, average⟩)
    (fun _ _ _ hi hs => ⟨⟨exec_conv_bounded hi hs.1.1, exec_remainders hi hs.1.2⟩, exec_averageBounded hi hs.2⟩) h

/-! ## The watermark marks and the stroke history -/

theorem testWatermarks_marksOrdered {s : State} (hs : MarksOrdered s) : MarksOrdered (testWatermarks s) := by
  obtain ⟨order, marks⟩ := hs
  refine ⟨by simpa using order, ?_⟩
  unfold testWatermarks
  dsimp only
  split
  · simp
  · have unit := Nat.mul_le_mul_right s.cfg.strokeMass order
    simp only [State.withPump_pump, Bool.or_eq_true, decide_eq_true_eq]
    rintro (marked | reached)
    · exact .inl (marks marked)
    · exact .inr (unit.trans reached)

section
variable {b : Scope} {s t : State} (h : Change b s t)
include h

theorem Change.historyBounded (hs : HistoryBounded s) : HistoryBounded t := by
  rw [HistoryBounded, h.frame.1]
  cases h
  case quiet same => rwa [same.pump]
  case pump x kept => exact kept.history.length_le.trans hs
  case begin may =>
    obtain ⟨-, -, -, room, -⟩ := (mayStart_iff s).1 may
    simpa [beginStroke] using room
  all_goals simpa [HistoryBounded, setCondition_pump] using hs

theorem Change.marksOrdered (hs : MarksOrdered s) : MarksOrdered t := by
  rw [MarksOrdered, h.frame.1]
  cases h
  case quiet same => rwa [same.pump]
  case pump x kept => rwa [State.withPump_pump, kept.strained, kept.behind]
  case debt x bound =>
    unfold setDebt
    split
    · exact hs
    · simpa [MarksOrdered] using testWatermarks_marksOrdered (s := s.withDose { s.dose with debt := x }) hs
  all_goals simpa [MarksOrdered, setCondition_pump, beginStroke] using hs

end

theorem exec_historyBounded {i : Instr} {s t : State} (cold : ColdUntilStart s) (h : exec i s = .next t)
    (hs : HistoryBounded s) : HistoryBounded t := by
  refine exec_keeps_of Change.historyBounded (fun _ _ _ _ _ _ => Nat.zero_le _) (fun accepted => ?_) (fun _ _ => hs) hs h hs
  obtain ⟨-, -, -, -, -, -, -, -, pump, -⟩ := cold ((accepted_iff _).1 accepted).1
  rw [HistoryBounded, startNode_pump, pump]
  exact Nat.zero_le _

theorem exec_marksOrdered {i : Instr} {s t : State} (h : exec i s = .next t) (hs : MarksOrdered s) : MarksOrdered t := by
  refine exec_keeps_of Change.marksOrdered (fun _ _ _ _ _ _ => by simp [MarksOrdered, Cfg.none, PumpSequencer.reset])
    (fun accepted => ?_) (fun _ _ => hs) hs h hs
  have check := ((accepted_iff s).1 accepted).2.2.2 37 (by decide) (by decide)
  simp only [checkField, checkScalar] at check
  simp at check
  rw [MarksOrdered, startNode_cfg, startNode_pump]
  exact ⟨by omega, by simp⟩

/-- Settles O18. -/
theorem stepKeepsPumpMarks : Obligations.StepKeepsPumpMarks := fun s _ cold history marks h =>
  step_keeps_of_exec (P := fun s => HistoryBounded s ∧ MarksOrdered s) ⟨history, marks⟩ (fun _ _ => ⟨history, marks⟩)
    (fun _ q n hi hs => ⟨exec_historyBounded (s := (s.withPending q).withChoices n) cold hi hs.1,
        exec_marksOrdered hi hs.2⟩) h

end Sys2Proof.Machine
end

section
/-! The latches and the level conditions through every step (R189 to R191, R63, R91, R138, R154, R156). -/

namespace Sys2Proof.Machine

/-! ## A true level condition has its latch set -/

theorem latchesHold_iff (s : State) : LatchesHold s.alarm ↔
    ∀ c : Cond, s.isTrue c = true → s.isLatched c = true ∧ levelConditions.getLsbD c.index = true := by
  have within_ (x y : BitVec 16) : x &&& ~~~y = 0 ↔ ∀ c : Cond, x.getLsbD c.index = true → y.getLsbD c.index = true := by
    constructor
    · intro none_ c hx
      have bit := congrArg (fun z => z.getLsbD c.index) none_
      simpa [hx, c.index_lt] using bit
    · intro all
      apply BitVec.eq_of_getLsbD_eq
      intro i hi
      obtain ⟨c, rfl⟩ := exists_cond_index hi
      have := all c
      cases hx : x.getLsbD c.index <;> simp_all
  simp only [LatchesHold, within_, State.isTrue, State.isLatched]
  exact ⟨fun h c hc => ⟨h.1 c hc, h.2 c hc⟩, fun h => ⟨fun c hc => (h c hc).1, fun c hc => (h c hc).2⟩⟩

theorem latchesHold_of_alarm {s t : State} (h : t.alarm = s.alarm) (hs : LatchesHold s.alarm) : LatchesHold t.alarm := h ▸ hs

section
variable {s : State} (hs : LatchesHold s.alarm)
include hs

theorem setLevel_latchesHold {c : Cond} (level : levelConditions.getLsbD c.index = true) (v : Bool) :
    LatchesHold (setLevel c v s).alarm := by
  rw [latchesHold_iff] at hs ⊢
  intro d
  rw [setLevel_isTrue, setLevel_isLatched]
  by_cases same : d = c
  · subst same
    cases now : s.isTrue d
    · simp +contextual [level]
    · simp [level, hs d now]
  · simpa [same] using hs d

theorem setLevelFlag_latchesHold {c : Cond} (level : levelConditions.getLsbD c.index = true) (f : Flag) (v : Bool) :
    LatchesHold (setLevelFlag c f v s).alarm :=
  setLevel_latchesHold (latchesHold_of_alarm (by simp) hs) level v

theorem raise_latchesHold (c : Cond) : LatchesHold (raise c s).alarm := by
  rw [latchesHold_iff] at hs ⊢
  intro d
  rw [raise_isTrue, raise_isLatched]
  intro now
  simp [hs d now]

theorem reportPump_latchesHold : LatchesHold (reportPump s).alarm := by
  unfold reportPump
  exact setLevelFlag_latchesHold (setLevelFlag_latchesHold hs (by decide) _ _) (by decide) _ _

theorem setMode_latchesHold (m : Mode) : LatchesHold (setMode m s).alarm := by
  have moved : LatchesHold (s.withPeers { s.peers with mode := m }).alarm := latchesHold_of_alarm (by simp) hs
  have reported := setLevel_latchesHold (setLevel_latchesHold moved (c := .unheard) (by decide) (m == .solo .unheard))
    (c := .alone) (by decide) (m == .solo .alone)
  exact latchesHold_of_alarm (by simp [setMode]) reported

end

theorem Change.latchesHold {b : Scope} {s t : State} (h : Change b s t) (hs : LatchesHold s.alarm) : LatchesHold t.alarm := by
  have flagged (f : Flag) : LatchesHold (setFlag f s).alarm := latchesHold_of_alarm (by simp) hs
  cases h
  case quiet same => exact latchesHold_of_alarm same.alarm hs
  case throttle =>
    unfold testThrottle
    exact setLevelFlag_latchesHold (latchesHold_of_alarm (by simp) hs) (by decide) _ _
  case dwell =>
    unfold testDwell
    split
    · split
      · exact latchesHold_of_alarm (by simp) hs
      · exact hs
    · exact setLevel_latchesHold (latchesHold_of_alarm (by simp) hs) (by decide) _
  case dwellEnds => exact setLevel_latchesHold (latchesHold_of_alarm (by simp) hs) (by decide) _
  case debt x bound =>
    unfold setDebt
    split
    · exact hs
    · exact reportPump_latchesHold (latchesHold_of_alarm (by simp) hs)
  case condition =>
    unfold setCondition
    exact reportPump_latchesHold (latchesHold_of_alarm (by simp) hs)
  case released x => exact latchesHold_of_alarm (by simp) (raise_latchesHold (flagged .debtReleased) .debtReleased)
  case raised c f _ _ => exact raise_latchesHold (flagged f) c
  case mode m _ => exact setMode_latchesHold hs m
  case abandoned r =>
    unfold countAbandoned testLinkFault
    exact setLevel_latchesHold (latchesHold_of_alarm (by simp) hs) (by decide) _
  case sent => exact setLevel_latchesHold (latchesHold_of_alarm (by simp) hs) (by decide) _
  case silenced => exact setLevel_latchesHold (latchesHold_of_alarm (by simp) hs) (by decide) _
  case given q v _ => exact setLevel_latchesHold hs (by cases q <;> decide) _
  all_goals exact latchesHold_of_alarm (by simp) hs

theorem startNode_latchesHold {s : State} (hs : LatchesHold s.alarm) : LatchesHold (startNode s).alarm := by
  unfold startNode
  have configured : LatchesHold (beginTransaction .pressure (startMeasurement (takeConfiguration s))).alarm := hs
  generalize beginTransaction .pressure (startMeasurement (takeConfiguration s)) = u at configured
  have shared : LatchesHold (startSharing u).alarm := by
    unfold startSharing
    exact setMode_latchesHold (latchesHold_of_alarm (by simp) configured) _
  have pumped : LatchesHold (startPump (startSharing u)).alarm := by
    unfold startPump
    exact reportPump_latchesHold (latchesHold_of_alarm (by simp) shared)
  exact latchesHold_of_alarm (by simp) pumped

theorem exec_latchesHold {i : Instr} {s t : State} (h : exec i s = .next t) (hs : LatchesHold s.alarm) :
    LatchesHold t.alarm := by
  refine exec_keeps_of (P := fun s => LatchesHold s.alarm) Change.latchesHold
      (fun _ _ _ _ _ _ => by simp [LatchesHold, AlarmUnit.reset])
    (fun _ => ?start) (fun _ _ => hs) ?clear h hs
  case start => exact startNode_latchesHold hs
  case clear =>
    rw [latchesHold_iff] at hs ⊢
    intro c now
    have was : s.isTrue c = true := now
    simp [clearLatches_isLatched, was, hs c was]

/-- Settles O20. -/
theorem stepKeepsLatches : Obligations.StepKeepsLatches := fun _ _ hs h =>
  step_keeps_of_exec (P := fun s => LatchesHold s.alarm) hs (fun _ _ => hs) (fun _ _ _ => exec_latchesHold) h

/-! ## Eight level conditions and their owners -/

theorem setDebt_isTrue_pump (x : Nat) (s : State) (fault : s.isTrue .pumpFault = true ↔ s.pump.condition = .fault)
    (strained : s.isTrue .pumpStrained = true ↔ s.pump.condition = .available ∧ s.pump.strained = true) :
    ((setDebt x s).isTrue .pumpFault = true ↔ (setDebt x s).pump.condition = .fault) ∧
      ((setDebt x s).isTrue .pumpStrained = true ↔
        (setDebt x s).pump.condition = .available ∧ (setDebt x s).pump.strained = true) := by
  unfold setDebt
  split
  · exact ⟨fault, strained⟩
  · simp [reportPump_isTrue]

theorem Change.conditionsFollow {b : Scope} {s t : State} (h : Change b s t) (hs : ConditionsFollow s) :
    ConditionsFollow t := by
  obtain ⟨unheard, alone, duplicate, link, fault, strained, throttled, low⟩ := hs
  cases h
  case quiet same =>
    have reads (c : Cond) : t.isTrue c = s.isTrue c := by rw [State.isTrue, same.alarm, State.isTrue]
    simp only [ConditionsFollow, reads, same.peers, same.pump, same.filter, same.silent, same.consecutive]
    exact ⟨unheard, alone, duplicate, link, fault, strained, throttled, low⟩
  case filter x kept => simp [ConditionsFollow, kept.throttled, kept.dwell, *]
  case throttle => simp [ConditionsFollow, testThrottle, setLevelFlag_isTrue, *]
  case dwell =>
    unfold testDwell
    split
    · split
      · next stopped => simp_all [ConditionsFollow]
      · exact ⟨unheard, alone, duplicate, link, fault, strained, throttled, low⟩
    · simp [ConditionsFollow, setLevel_isTrue, *]
  case dwellEnds => simp [ConditionsFollow, setLevel_isTrue, *]
  case debt x bound =>
    obtain ⟨fault2, strained2⟩ := setDebt_isTrue_pump x s fault strained
    simp [ConditionsFollow, setDebt_isTrue, *]
  case condition c _ _ => simp [ConditionsFollow, setCondition_isTrue, setCondition_pump, *]
  case pump x kept => simp [ConditionsFollow, kept.condition, kept.strained, *]
  case mode m _ => simp [ConditionsFollow, setMode_isTrue, setMode_peers, *]
  case peers x mode _ => simp [ConditionsFollow, *]
  case entry n e _ _ => simp [ConditionsFollow, setEntry, PeerTable.setEntry, *]
  case raised c f _ _ => simp [ConditionsFollow, raise_isTrue, *]
  case abandoned r => simp [ConditionsFollow, countAbandoned_isTrue, countAbandoned_tally, *]
  case sent x was new zero => simp [ConditionsFollow, setLevel_isTrue, *]
  case silenced => simp [ConditionsFollow, setLevel_isTrue, silence_tally, *]
  case given q v _ => cases q <;> simp [ConditionsFollow, substCond, setLevel_isTrue, *]
  case released x => simp [ConditionsFollow, raise_isTrue, *]
  case counted => simp [ConditionsFollow, *]
  all_goals simp [ConditionsFollow, beginStroke, *]

theorem exec_conditionsFollow {i : Instr} {s t : State} (h : exec i s = .next t) (hs : ConditionsFollow s) :
    ConditionsFollow t := by
  refine exec_keeps_of Change.conditionsFollow (fun n a x y z _ => ?reset) (fun _ => ?start) (fun _ _ => hs) hs h hs
  case reset =>
    have none_ : ∀ c, (resetNode n a x y z s).isTrue c = false := fun c => by simp [State.isTrue, AlarmUnit.reset]
    simp [ConditionsFollow, none_, TallyLine.reset, PeerTable.reset, PumpSequencer.reset, ConcentrationFilter.reset]
  case start =>
    obtain ⟨-, -, duplicate, link, -, -, throttled, low⟩ := hs
    have notFault := startCondition_quiet (readBlock s.port.block).capacityClass
    simp only [beq_eq_false_iff_ne] at notFault
    simp [ConditionsFollow, startNode_isTrue, startNode_peers, startNode_tally, startNode_pump, startNode_filter, *]

/-- Settles O21. -/
theorem stepKeepsConditionsWithTheirOwners : Obligations.StepKeepsConditionsWithTheirOwners := fun _ _ hs h =>
  step_keeps_of_exec (P := ConditionsFollow) hs (fun _ _ => hs) (fun _ _ _ => exec_conditionsFollow) h

/-! ## The own number's place in the Peer Table -/

theorem entry_eq_of_place {b : PeerTable} {n m : Nat} (h : n - 1 = m - 1) : b.entry n = b.entry m := by
  simp [PeerTable.entry, h]

theorem Change.ownEntryAbsent {b : Scope} {s t : State} (h : Change b s t) (hs : OwnEntryAbsent s) : OwnEntryAbsent t := by
  have number : t.nodeNumber = s.nodeNumber := by rw [State.nodeNumber, h.frame.2.2, State.nodeNumber]
  rw [OwnEntryAbsent, number]
  cases h
  case quiet same => rwa [same.peers]
  case mode m _ => simpa [OwnEntryAbsent, setMode_peers, PeerTable.entry] using hs
  case peers x _ entries => simpa [OwnEntryAbsent, PeerTable.entry, entries] using hs
  case entry n e place _ =>
    have other : n - 1 ≠ s.nodeNumber - 1 := place.elim id fun live same => by
      simp [entry_eq_of_place same, hs.2, Entry.isLive, Entry.absent] at live
    exact ⟨by simpa [setEntry] using (setEntry_length _ _ _).trans hs.1, (setEntry_other _ _ _ _ other).trans hs.2⟩
  all_goals simpa [OwnEntryAbsent] using hs

theorem exec_ownEntryAbsent {i : Instr} {s t : State} (h : exec i s = .next t) (hs : OwnEntryAbsent s) :
    OwnEntryAbsent t := by
  refine exec_keeps_of Change.ownEntryAbsent (fun _ _ _ _ _ _ => ?reset) (fun _ => ?start) (fun _ _ => hs) hs h hs
  case reset => exact ⟨by simp [PeerTable.reset], by simpa using entry_of_absent _⟩
  case start => simpa [OwnEntryAbsent, startNode_peers, PeerTable.entry] using hs

/-- Settles O23. -/
theorem stepKeepsOwnEntryAbsent : Obligations.StepKeepsOwnEntryAbsent := fun _ _ hs h =>
  step_keeps_of_exec (P := OwnEntryAbsent) hs (fun _ _ => hs) (fun _ _ _ => exec_ownEntryAbsent) h

end Sys2Proof.Machine
end

section
/-! The transmitter of the tally line through every command (section 4.4): a frame is pending exactly where it waits or is sent, and a
silenced transmitter stays so (R62 to R64). -/

namespace Sys2Proof.Machine

/-! ## A frame is pending exactly in DEFER, HOLDOFF and SENDING -/

section
variable {s : State}

theorem countAbandoned_consistent (r : Bool) (hs : TransmitterConsistent s.tally) :
    TransmitterConsistent (countAbandoned r s).tally := by
  obtain ⟨pending, owed, attempt, -⟩ := hs
  rw [countAbandoned_tally]
  exact ⟨pending, owed, attempt, Nat.min_le_left _ _⟩

theorem makePending_consistent (f : Frame) (owed : s.tally.owed = .none) (consecutive : s.tally.consecutive ≤ 255) :
    TransmitterConsistent (makePending f s).tally := by
  rw [makePending_tally]
  refine ⟨?_, fun some_ => absurd owed some_, Nat.zero_le 3, consecutive⟩
  cases s.tally.lineIdle <;> simp

theorem build_consistent (k : Owed) (hs : TransmitterConsistent s.tally) (idle : s.tally.transmitter ≠ .sending) :
    TransmitterConsistent (build k s).tally := by
  have owed : s.tally.owed = .none := by_contra fun some_ => idle (hs.2.1 some_)
  cases k with
  | none => exact hs
  | tally => exact makePending_consistent _ owed hs.2.2.2
  | leave => exact makePending_consistent _ owed hs.2.2.2

theorem buildOwed_consistent (hs : TransmitterConsistent { s.tally with owed := .none })
    (idle : s.tally.transmitter ≠ .sending) : TransmitterConsistent (buildOwed s).tally :=
  build_consistent (s := s.withTally { s.tally with owed := .none }) _ hs idle

theorem fallDue_consistent (k : Owed) (hs : TransmitterConsistent s.tally) : TransmitterConsistent (fallDue k s).tally := by
  have replaced (idle : s.tally.transmitter ≠ .sending) : TransmitterConsistent (build k (countAbandoned true s)).tally :=
    build_consistent k (countAbandoned_consistent true hs) (by rwa [countAbandoned_tally])
  unfold fallDue
  split
  · next sending => exact ⟨hs.1, fun _ => sending, hs.2.2.1, hs.2.2.2⟩
  · next empty => exact build_consistent k hs (by simp [empty])
  · next defer => exact replaced (by simp [defer])
  · next holdoff => exact replaced (by simp [holdoff])
  · exact hs

theorem loseAttempt_consistent (hs : TransmitterConsistent s.tally) (sending : s.tally.transmitter = .sending)
    (more : s.tally.attempt + 1 < 4) : TransmitterConsistent (loseAttempt s).tally := by
  obtain ⟨pending, -, -, consecutive⟩ := hs
  have waits : TransmitterConsistent { s.tally with transmitter := .defer, attempt := s.tally.attempt + 1, owed := .none } :=
    ⟨by simp [pending, sending], by simp, Nat.lt_succ_iff.1 more, consecutive⟩
  simp only [loseAttempt]
  split
  · next none_ => exact none_ ▸ waits
  · refine buildOwed_consistent ?_ (by simp [countAbandoned_tally])
    rw [countAbandoned_tally]
    exact ⟨waits.1, by simp, waits.2.2.1, Nat.min_le_left _ _⟩

theorem abandonFrame_consistent : TransmitterConsistent (abandonFrame s).tally := by
  refine buildOwed_consistent ?_ (by simp [countAbandoned_tally])
  rw [countAbandoned_tally]
  exact ⟨by simp, by simp, Nat.zero_le 3, Nat.min_le_left _ _⟩

theorem frameIsSent_consistent (p : Pending) : TransmitterConsistent (frameIsSent p s).tally := by
  refine buildOwed_consistent ?_ (by simp)
  simp [TransmitterConsistent]

theorem duplicate_tally : (duplicate s).tally =
    { s.tally with transmitter := .silent, pending := none, owed := .none, attempt := 0 } := by
  have kept : (if s.peers.mode = .shared then leaveShared .duplicate s else setMode (.solo .duplicate) s).tally =
      s.tally := by
    split <;> simp
  simp [duplicate, silence_tally, kept]

theorem goodFrame_consistent (f : Frame) (hs : TransmitterConsistent s.tally) :
    TransmitterConsistent (goodFrame f s).tally := by
  unfold goodFrame
  dsimp only
  split
  · split
    · exact hs
    · rw [duplicate_tally]
      exact ⟨by simp, by simp, Nat.zero_le 3, hs.2.2.2⟩
  · simpa [TransmitterConsistent] using hs

end

theorem exec_transmitterConsistent {i : Instr} {s t : State} (h : exec i s = .next t) (hs : TransmitterConsistent s.tally) :
    TransmitterConsistent t.tally := by
  by_cases moved : Part.tally ∈ movedParts i
  · cases i
    case coldReset => cases h; simp [TransmitterConsistent, TallyLine.reset]
    case start =>
      obtain ⟨r, i, refused⟩ | ⟨-, runs⟩ := exec_start_cases s
      · cases refused.symm.trans h; simpa using hs
      · cases runs.symm.trans h; simpa [done, startNode_tally, TransmitterConsistent] using hs
    case receiverSynced =>
      simp only [exec, execReceiverSynced] at h
      split at h <;> cases h <;> exact hs
    case frameEnd bytes x y =>
      simp only [exec, execFrameEnd] at h
      split at h
      · split at h
        · cases h; exact hs
        · split at h <;> cases h
          · exact hs
          · simp only [startIfChanged_frame]
            exact goodFrame_consistent _ hs
      · cases h; exact hs
    case tallyTimerExpiry =>
      simp only [exec, execTallyTimerExpiry] at h
      split at h
      · split at h <;> cases h
        · exact fallDue_consistent _ hs
        · exact hs
      · cases h; exact hs
    case lineIdle =>
      simp only [exec, execLineIdle] at h
      split at h <;> cases h
      · next defer => simpa [TransmitterConsistent, defer] using hs
      · exact hs
    case holdoffEnd =>
      simp only [exec, execHoldoffEnd] at h
      split at h <;> cases h
      · next holdoff => simpa [TransmitterConsistent, holdoff.1] using And.intro hs.1 hs.2.2
      · exact hs
    case deferral =>
      simp only [exec, execDeferral] at h
      split at h <;> cases h
      · next holdoff => simpa [TransmitterConsistent, holdoff] using hs
      · exact hs
    case collision =>
      simp only [exec, execCollision] at h
      split at h
      · next sending =>
        split at h <;> cases h
        · next more => exact loseAttempt_consistent hs sending more
        · exact abandonFrame_consistent
      · cases h; exact hs
    case frameSent =>
      simp only [exec, execFrameSent] at h
      split at h <;> cases h
      · simpa using frameIsSent_consistent _
      · exact hs
    case leave =>
      simp only [exec, execLeave] at h
      split at h <;> cases h
      · simpa [done, park] using fallDue_consistent (s := release (setSwitchPending false (setMode .parked s))) .leave
          (by simpa using hs)
      · simpa [refuseState] using hs
    case pulseEdge change =>
      cases change with
      | high => simp [movedParts] at moved
      | low c => cases c <;> simp [movedParts] at moved
    all_goals simp [movedParts] at moved
  · rwa [show t.tally = s.tally from exec_same h .tally moved]

/-- Settles O22. -/
theorem stepKeepsTransmitterConsistent : Obligations.StepKeepsTransmitterConsistent := fun _ _ hs h =>
  step_keeps_of_exec (P := fun s => TransmitterConsistent s.tally) hs (fun _ _ => hs)
      (fun _ _ _ => exec_transmitterConsistent) h

/-! ## A silenced transmitter -/

/-- The transmitter stands silenced with what it held: its frames, its sequence and its counts. -/
structure SilentAsBefore (s t : TallyLine) : Prop where
  transmitter : t.transmitter = .silent
  pending : t.pending = s.pending
  owed : t.owed = s.owed
  sequence : t.sequence = s.sequence
  sent : t.sent = s.sent
  collisions : t.collisions = s.collisions
  abandoned : t.abandoned = s.abandoned
  consecutive : t.consecutive = s.consecutive

/-- A good frame only counts at a silenced transmitter (R55, R64). -/
theorem goodFrame_silent (f : Frame) {s : State} (silent : s.tally.transmitter = .silent) :
    SilentAsBefore s.tally (goodFrame f s).tally := by
  unfold goodFrame
  dsimp only
  split <;> constructor <;> simp [silent]

theorem exec_silent {i : Instr} {s t : State} (notReset : ∀ n a x y z, i ≠ .coldReset n a x y z)
    (silent : s.tally.transmitter = .silent) (h : exec i s = .next t) : SilentAsBefore s.tally t.tally := by
  have same : SilentAsBefore s.tally s.tally := ⟨silent, rfl, rfl, rfl, rfl, rfl, rfl, rfl⟩
  by_cases moved : Part.tally ∈ movedParts i
  · cases i
    case coldReset => exact absurd rfl (notReset _ _ _ _ _)
    case start =>
      obtain ⟨r, i, refused⟩ | ⟨-, runs⟩ := exec_start_cases s
      · cases refused.symm.trans h; simpa using same
      · cases runs.symm.trans h; simpa [done, startNode_tally] using ⟨silent, rfl, rfl, rfl, rfl, rfl, rfl, rfl⟩
    case receiverSynced =>
      simp only [exec, execReceiverSynced] at h
      split at h <;> cases h <;> exact ⟨silent, rfl, rfl, rfl, rfl, rfl, rfl, rfl⟩
    case frameEnd bytes x y =>
      simp only [exec, execFrameEnd] at h
      split at h
      · split at h
        · cases h; exact ⟨silent, rfl, rfl, rfl, rfl, rfl, rfl, rfl⟩
        · split at h <;> cases h
          · exact ⟨silent, rfl, rfl, rfl, rfl, rfl, rfl, rfl⟩
          · simp only [startIfChanged_frame]
            obtain ⟨h1, h2, h3, h4, h5, h6, h7, h8⟩ :=
              goodFrame_silent ‹Frame› (s := s.withTally { s.tally with lineIdle := true, ownOnLine := none }) silent
            exact ⟨h1, h2, h3, h4, h5, h6, h7, h8⟩
      · cases h; exact same
    case tallyTimerExpiry =>
      simp only [exec, execTallyTimerExpiry] at h
      split at h
      · split at h <;> cases h
        · rw [fallDue_silent .tally (s.withTally { s.tally with
            timerStart := reschedule s.tally.timerStart s.cfg.tallyInterval }) silent]
          exact ⟨silent, rfl, rfl, rfl, rfl, rfl, rfl, rfl⟩
        · exact ⟨silent, rfl, rfl, rfl, rfl, rfl, rfl, rfl⟩
      · cases h; exact same
    case lineIdle =>
      simp only [exec, execLineIdle, if_neg (show s.tally.transmitter ≠ .defer by simp [silent])] at h
      cases h
      exact ⟨silent, rfl, rfl, rfl, rfl, rfl, rfl, rfl⟩
    case holdoffEnd => simp [exec, execHoldoffEnd, silent] at h; exact h ▸ same
    case deferral =>
      simp only [exec, execDeferral, if_neg (show s.tally.transmitter ≠ .holdoff by simp [silent])] at h
      cases h
      exact ⟨silent, rfl, rfl, rfl, rfl, rfl, rfl, rfl⟩
    case collision => simp [exec, execCollision, silent] at h; exact h ▸ same
    case frameSent => simp [exec, execFrameSent, silent] at h; exact h ▸ same
    case leave =>
      simp only [exec, execLeave] at h
      split at h <;> cases h
      · simp [done, park]
        rw [fallDue_silent _ _ (by simpa using silent)]
        simpa using same
      · simpa [refuseState] using same
    case pulseEdge change =>
      cases change with
      | high => simp [movedParts] at moved
      | low c => cases c <;> simp [movedParts] at moved
    all_goals simp [movedParts] at moved
  · rwa [show t.tally = s.tally from exec_same h .tally moved]

/-- Settles O9. -/
theorem silencedUntilColdReset : Obligations.SilencedUntilColdReset := by
  intro i s t notReset silent h
  obtain ⟨transmitter, pending, owed, sequence, sent, collisions, abandoned, consecutive⟩ := exec_silent notReset silent h
  exact ⟨transmitter, pending, owed, sequence, sent, collisions, abandoned, consecutive⟩

/-! ## The timer and the receiver -/

@[simp] theorem build_line (k : Owed) (s : State) : (build k s).tally.timerStart = s.tally.timerStart ∧
    (build k s).tally.receiver = s.tally.receiver := by
  cases k <;> simp [build, makePending_tally]

@[simp] theorem countAbandoned_line (r : Bool) (s : State) : (countAbandoned r s).tally.timerStart = s.tally.timerStart ∧
    (countAbandoned r s).tally.receiver = s.tally.receiver := by
  simp [countAbandoned_tally]

@[simp] theorem buildOwed_line (s : State) : (buildOwed s).tally.timerStart = s.tally.timerStart ∧
    (buildOwed s).tally.receiver = s.tally.receiver := by
  simp [buildOwed]

@[simp] theorem fallDue_line (k : Owed) (s : State) : (fallDue k s).tally.timerStart = s.tally.timerStart ∧
    (fallDue k s).tally.receiver = s.tally.receiver := by
  unfold fallDue
  split <;> simp

@[simp] theorem frameIsSent_line (p : Pending) (s : State) : (frameIsSent p s).tally.timerStart = s.tally.timerStart ∧
    (frameIsSent p s).tally.receiver = s.tally.receiver := by
  simp [frameIsSent]

@[simp] theorem loseAttempt_line (s : State) : (loseAttempt s).tally.timerStart = s.tally.timerStart ∧
    (loseAttempt s).tally.receiver = s.tally.receiver := by
  simp only [loseAttempt]
  split <;> simp

@[simp] theorem abandonFrame_line (s : State) : (abandonFrame s).tally.timerStart = s.tally.timerStart ∧
    (abandonFrame s).tally.receiver = s.tally.receiver := by
  simp [abandonFrame]

@[simp] theorem goodFrame_line (f : Frame) (s : State) : (goodFrame f s).tally.timerStart = s.tally.timerStart ∧
    (goodFrame f s).tally.receiver = s.tally.receiver := by
  unfold goodFrame
  dsimp only
  (repeat' split) <;> simp [duplicate_tally]

/-- Under every command but COLD_RESET and START the receiver goes off at no command, and the tally timer stands but where it has
run out. -/
theorem exec_line {i : Instr} {s t : State} (notReset : ∀ n a x y z, i ≠ .coldReset n a x y z) (notStart : i ≠ .start)
    (h : exec i s = .next t) :
    (t.tally.timerStart = s.tally.timerStart ∨
        s.tallyDue = true ∧ t.tally.timerStart = reschedule s.tally.timerStart s.cfg.tallyInterval) ∧
      (s.tally.receiver ≠ .off → t.tally.receiver ≠ .off) := by
  have kept (k : t.tally.timerStart = s.tally.timerStart ∧ t.tally.receiver = s.tally.receiver) :
      (t.tally.timerStart = s.tally.timerStart ∨
        s.tallyDue = true ∧ t.tally.timerStart = reschedule s.tally.timerStart s.cfg.tallyInterval) ∧
      (s.tally.receiver ≠ .off → t.tally.receiver ≠ .off) := ⟨.inl k.1, fun on => k.2 ▸ on⟩
  by_cases moved : Part.tally ∈ movedParts i
  · cases i
    case coldReset => exact absurd rfl (notReset _ _ _ _ _)
    case start => exact absurd rfl notStart
    case receiverSynced =>
      simp only [exec, execReceiverSynced] at h
      split at h <;> cases h <;> simp
    case tallyTimerExpiry =>
      simp only [exec, execTallyTimerExpiry] at h
      split at h
      · next due => split at h <;> cases h <;> simp [due]
      · cases h; exact kept ⟨rfl, rfl⟩
    case frameEnd | lineIdle | holdoffEnd | deferral | collision | frameSent | leave =>
      refine kept ?_
      simp only [exec, execFrameEnd, execLineIdle, execHoldoffEnd, execDeferral, execCollision, execFrameSent, execLeave] at h
      (repeat' split at h) <;> cases h <;> simp [done, refuseState, park, badFrame]
    case pulseEdge change =>
      cases change with
      | high => simp [movedParts] at moved
      | low c => cases c <;> simp [movedParts] at moved
    all_goals simp [movedParts] at moved
  · have same : t.tally = s.tally := exec_same h .tally moved
    exact kept ⟨by rw [same], by rw [same]⟩

end Sys2Proof.Machine
end

section
/-! The ring of records (R167) and the sensor bus (R16, R20, R25, R28) through every command. -/

namespace Sys2Proof.Machine

/-! ## The ring -/

theorem RingConsecutive.tail {b : IntervalStore} (hb : RingConsecutive b) : RingConsecutive { b with ring := b.ring.tail } := by
  obtain ⟨length, sequences⟩ := hb
  refine ⟨by simpa using Nat.le_succ_of_le length, fun i r hr => ?_⟩
  have at_ : b.ring[i + 1]? = some r := by simpa using hr
  rw [sequences (i + 1) r at_]
  congr 2
  simp
  omega

/-- A ring with room takes the record with the next sequence. -/
theorem RingConsecutive.append {b : IntervalStore} (hb : RingConsecutive b) (room : b.ring.length < 128) {r : IntervalRecord}
    (sequence : r.sequence = b.nextSequence) :
    RingConsecutive { b with ring := b.ring ++ [r], nextSequence := b.nextSequence + 1 } := by
  obtain ⟨-, sequences⟩ := hb
  refine ⟨by simpa using room, fun i q hq => ?_⟩
  have next : ∀ n, b.nextSequence + 1 - BitVec.ofNat 32 (n + 1) = b.nextSequence - BitVec.ofNat 32 n := by
    intro n
    rw [BitVec.ofNat_add]
    exact add_sub_add_right_eq_sub ..
  obtain before | last := Nat.lt_or_ge i b.ring.length
  · have old : b.ring[i]? = some q := by simpa [List.getElem?_append_left before] using hq
    have distance : (b.ring ++ [r]).length - i = b.ring.length - i + 1 := by simp; omega
    rw [distance, next]
    exact sequences i q old
  · have here : i = b.ring.length := by
      have bound := (List.getElem?_eq_some_iff.1 hq).1
      simp at bound
      omega
    subst here
    have same : r = q := by simpa using hq
    subst same
    simp [sequence]

theorem closeInterval_ringConsecutive (cause : CloseCause) {s : State} (hs : RingConsecutive s.store) :
    RingConsecutive (closeInterval cause s).store := by
  unfold closeInterval
  split
  · next i _ =>
    have appended : RingConsecutive { s.store with
        ring := appendRecord s.store.ring (s.closingRecord cause i), nextSequence := s.store.nextSequence + 1 } := by
      unfold appendRecord ringCapacity
      split
      · next room => exact hs.append room rfl
      · next full =>
        have room : s.store.ring.tail.length < 128 := by
          have length := hs.1
          simp
          omega
        exact hs.tail.append room rfl
    simpa [RingConsecutive] using appended
  · exact hs

/-- Settles O19. -/
theorem stepKeepsRingConsecutive : Obligations.StepKeepsRingConsecutive := by
  intro s t hs h
  refine step_keeps_of_exec (P := fun s => RingConsecutive s.store) hs (fun _ _ => hs) (fun i q n hi hs => ?_) h
  by_cases moved : Part.ring ∈ movedParts i
  · cases i
    case coldReset => cases hi; exact ⟨by simp [IntervalStore.reset], by simp [IntervalStore.reset]⟩
    case mark =>
      simp only [exec, execMark] at hi
      split at hi <;> cases hi
      · simpa [done] using closeInterval_ringConsecutive .mark hs
      · simpa [refuseState] using hs
    case intervalTimerExpiry =>
      simp only [exec, execIntervalTimerExpiry] at hi
      split at hi <;> cases hi
      · exact closeInterval_ringConsecutive .timer hs
      · exact hs
    case pulseEdge change =>
      cases change with
      | high => simp [movedParts] at moved
      | low c => cases c <;> simp [movedParts] at moved
    all_goals simp [movedParts] at moved
  · obtain ⟨ring, next⟩ : t.store.ring = _ ∧ t.store.nextSequence = _ := exec_same hi .ring moved
    unfold RingConsecutive
    rw [ring, next]
    exact hs

/-! ## What a bus command does to the running transaction -/

/-- A transmitter's state `y` keeps the value and age of `q`, or has just taken a value bounded by its limits (R25). -/
def ValueTaken (s : State) (q : Quantity) (y : Transmitter) : Prop :=
  (y.age = (s.sensor.of q).age ∧ y.lastGood = (s.sensor.of q).lastGood) ∨
    (y.age = 0 ∧ ∃ v, y.lastGood = some (clampValue (s.cfg.clampLow q) (s.cfg.clampHigh q) v))

/-- The bus after a command of the running transaction: it stands, the transaction moves on past START CHECK, or it ends. -/
inductive BusMove (s : State) : SensorBus → Prop
  | same : BusMove s s.sensor
  | moves (q y) (active : s.sensor.active = some q) (value : ValueTaken s q y) (phase : y.phase ≠ .startCheck ∧
      y.phase ≠ .idle) :
      BusMove s (s.sensor.set q y)
  | ends (q y) (active : s.sensor.active = some q) (value : ValueTaken s q y) : BusMove s (s.sensor.ended s.clock q y)

/-- The commands of the running transaction. -/
def isBusCommand : Instr → Bool
  | .busReleased | .busHeld | .stretchNotice _ | .stretchAbort | .addressNack _ | .transactionEnd _ _ | .recoveryEnd => true
  | _ => false

theorem active_runs {b : SensorBus} {q : Quantity} (active : b.active = some q) : (b.of q).phase ≠ .idle := by
  unfold SensorBus.active at active
  split at active
  · next busy => cases active; exact busy
  · split at active <;> cases active
    assumption

theorem following_runs {p : TxnPhase} (runs : p ≠ .idle) : p.following ≠ .startCheck ∧ p.following ≠ .idle := by
  cases p <;> simp [TxnPhase.following] at runs ⊢

theorem phaseOf_runs (p : TransferPhase) : phaseOf p ≠ .startCheck ∧ phaseOf p ≠ .idle := by cases p <;> decide

theorem exec_busMove {i : Instr} {s t : State} (bus : isBusCommand i = true) (h : exec i s = .next t) : BusMove s t.sensor := by
  have kept (q : Quantity) : ValueTaken s q (s.sensor.of q) := .inl ⟨rfl, rfl⟩
  cases i
  case busReleased =>
    simp only [exec, execBusReleased] at h
    split at h
    · next q active =>
      split at h <;> cases h
      · exact .same
      · exact .moves q _ active (kept q) (following_runs (active_runs active))
    · cases h; exact .same
  case busHeld =>
    simp only [exec, execBusHeld] at h
    split at h
    · next q active =>
      split at h <;> cases h
      · rw [enterRecovery_eq]
        exact .moves q _ active (kept q) ⟨nofun, nofun⟩
      · exact .same
    · cases h; exact .same
  case stretchNotice phase =>
    simp only [exec, execStretchNotice] at h
    split at h
    · next q active =>
      split at h <;> cases h
      · exact .moves q _ active (kept q) (phaseOf_runs _)
      · exact .same
    · cases h; exact .same
  case stretchAbort =>
    simp only [exec, execStretchAbort] at h
    split at h
    · next q active =>
      split at h <;> cases h
      · rw [enterRecovery_eq]
        exact .moves q _ active (kept q) ⟨nofun, nofun⟩
      · exact .same
    · cases h; exact .same
  case addressNack =>
    simp only [exec, execAddressNack] at h
    split at h
    · next q active =>
      split at h <;> cases h
      · rw [recordFailure_eq, endTransaction_set]
        exact .ends q _ active (kept q)
      · exact .same
    · cases h; exact .same
  case transactionEnd value status =>
    simp only [exec, execTransactionEnd] at h
    split at h
    · next q active =>
      split at h <;> cases h
      · cases valid : status.getLsbD 0
        · rw [judgeBytes_of_invalid q value s valid, endTransaction_set]
          exact .ends q _ active (kept q)
        · rw [judgeBytes_of_valid q value s valid, endTransaction_set]
          exact .ends q _ active (.inr ⟨rfl, _, rfl⟩)
      · exact .same
    · cases h; exact .same
  case recoveryEnd =>
    simp only [exec, execRecoveryEnd] at h
    split at h
    · next q active =>
      split at h <;> cases h
      · rw [endTransaction_eq]
        exact .ends q _ active (kept q)
      · exact .same
    · cases h; exact .same
  all_goals cases bus

/-! ## The values and the one transaction -/

/-- A transmitter's last good value lies within its limits, and its age is at most 255 (R25, R28). -/
def TransmitterGood (c : Cfg) (q : Quantity) (x : Transmitter) : Prop :=
  x.age ≤ 255 ∧ ∀ v, x.lastGood = some v → c.inLimits q v

theorem clampValue_inLimits {c : Cfg} {q : Quantity} (order : c.clampLow q ≤ c.clampHigh q) (v : Nat) :
    c.inLimits q (clampValue (c.clampLow q) (c.clampHigh q) v) := by
  unfold Cfg.inLimits clampValue
  (repeat' split) <;> omega

section
variable {s : State} (hs : ValuesWithinLimits s)
include hs

theorem ValueTaken.good {q : Quantity} {y : Transmitter} (h : ValueTaken s q y) : TransmitterGood s.cfg q y := by
  obtain ⟨age, limits, low, high⟩ := hs q
  obtain ⟨sameAge, same⟩ | ⟨zero, v, taken⟩ := h
  · exact ⟨sameAge ▸ age, same ▸ limits⟩
  · refine ⟨by omega, fun w hw => ?_⟩
    cases taken.symm.trans hw
    exact clampValue_inLimits (low.trans high) v

theorem BusMove.valuesWithinLimits {b : SensorBus} (h : BusMove s b) : ValuesWithinLimits (s.withSensor b) := by
  have good (q : Quantity) : TransmitterGood s.cfg q (s.sensor.of q) := ⟨(hs q).1, (hs q).2.1⟩
  suffices all : ∀ q, TransmitterGood s.cfg q (b.of q) from fun q => ⟨(all q).1, (all q).2, (hs q).2.2⟩
  cases h with
  | same => exact good
  | moves q y _ value _ =>
    have new := value.good hs
    intro r
    cases q <;> cases r
    exacts [new, good .temperature, good .pressure, new]
  | ends q y _ value =>
    have new := value.good hs
    intro r
    cases q <;> cases r
    exacts [new, good .temperature, good .pressure, new]

end

/-- While one transaction runs, the other transmitter is idle. -/
theorem other_idle {b : SensorBus} {q : Quantity} (one : OneTransaction b) (active : b.active = some q) :
    (q = .pressure → b.temperature.phase = .idle) ∧ (q = .temperature → b.pressure.phase = .idle) := by
  unfold SensorBus.active at active
  split at active
  · next busy => cases active; exact ⟨fun _ => one.resolve_left busy, nofun⟩
  · next idle => split at active <;> cases active; exact ⟨nofun, fun _ => not_not.1 idle⟩

theorem BusMove.oneTransaction {s : State} {b : SensorBus} (h : BusMove s b) (one : OneTransaction s.sensor) :
    OneTransaction b := by
  cases h with
  | same => exact one
  | moves q y active _ _ =>
    obtain ⟨temperature, pressure⟩ := other_idle one active
    cases q with
    | pressure => exact .inr (temperature rfl)
    | temperature => exact .inl (pressure rfl)
  | ends q y active _ =>
    obtain ⟨temperature, pressure⟩ := other_idle one active
    cases q with
    | pressure => exact .inl rfl
    | temperature => exact .inl (pressure rfl)

theorem cycleEnd_oneTransaction {s : State} (one : OneTransaction s.sensor) : OneTransaction (cycleEnd s).sensor := by
  by_cases idle : s.sensor.pressure.phase = .idle ∧ s.sensor.temperature.phase = .idle
  · rw [cycleEnd_sensor_of_idle idle.1 idle.2]
    exact .inr idle.2
  · rw [cycleEnd_sensor_of_busy (not_and_or.1 idle)]
    exact one

theorem cycleEnd_values {s : State} (q : Quantity) : ((cycleEnd s).sensor.of q).lastGood = (s.sensor.of q).lastGood ∧
    ((cycleEnd s).sensor.of q).age ≤ 255 := by
  by_cases idle : s.sensor.pressure.phase = .idle ∧ s.sensor.temperature.phase = .idle
  · rw [cycleEnd_sensor_of_idle idle.1 idle.2]
    cases q <;> simp [SensorBus.of, Transmitter.older]
  · rw [cycleEnd_sensor_of_busy (not_and_or.1 idle)]
    cases q <;> simp [SensorBus.of, Transmitter.older]

theorem startNode_values {s : State} (sensor : s.sensor = SensorBus.reset)
    (fields : ∀ i, 1 ≤ i → i ≤ 60 → checkField (readBlock s.port.block) i = true) : ValuesWithinLimits (startNode s) := by
  have limits (q : Quantity) : (readBlock s.port.block).inLimits q ((readBlock s.port.block).fallback q) := by
    cases q with
    | pressure =>
      simpa [checkField, checkScalar, within, Cfg.inLimits, Cfg.clampLow, Cfg.clampHigh, Cfg.fallback]
        using fields 10 (by decide) (by decide)
    | temperature =>
      simpa [checkField, checkScalar, within, Cfg.inLimits, Cfg.clampLow, Cfg.clampHigh, Cfg.fallback]
        using fields 11 (by decide) (by decide)
  intro q
  rw [startNode_cfg, startNode_sensor, sensor]
  refine ⟨?_, ?_, limits q⟩ <;> cases q <;> simp [SensorBus.of, SensorBus.reset, Transmitter.reset]

theorem exec_sensorBus {i : Instr} {s t : State} (cold : ColdUntilStart s) (h : exec i s = .next t)
    (values : ValuesWithinLimits s) (one : OneTransaction s.sensor) : ValuesWithinLimits t ∧ OneTransaction t.sensor := by
  by_cases moved : Part.sensor ∈ movedParts i
  · cases i
    case busReleased | busHeld | stretchNotice | stretchAbort | addressNack | transactionEnd | recoveryEnd =>
      have move := exec_busMove rfl h
      have cfg : t.cfg = s.cfg := exec_same h .cfg (by simp [movedParts])
      refine ⟨fun q => ?_, move.oneTransaction one⟩
      rw [cfg]
      exact move.valuesWithinLimits values q
    case cycleTimerExpiry =>
      simp only [exec, execCycleTimerExpiry] at h
      split at h <;> cases h
      · simp only [startIfChanged_frame]
        refine ⟨fun q => ?_, cycleEnd_oneTransaction one⟩
        obtain ⟨good, age⟩ := cycleEnd_values (s := s) q
        simpa [good] using ⟨age, (values q).2⟩
      · exact ⟨values, one⟩
    case start =>
      obtain ⟨r, i, refused⟩ | ⟨accepted, runs⟩ := exec_start_cases s
      · cases refused.symm.trans h
        rw [recordCommand_eq]
        exact ⟨values, one⟩
      · cases runs.symm.trans h
        obtain ⟨config, -, -, fields⟩ := (accepted_iff s).1 accepted
        obtain ⟨-, -, -, sensor, -⟩ := cold config
        have started := startNode_values sensor fields
        refine ⟨by simpa [done, ValuesWithinLimits] using started, ?_⟩
        simp [done, startNode_sensor, sensor, OneTransaction, SensorBus.reset, Transmitter.reset]
    case coldReset =>
      cases h
      refine ⟨fun q => ?_, .inl rfl⟩
      cases q <;>
        simp [SensorBus.of, SensorBus.reset, Transmitter.reset, Cfg.inLimits, Cfg.none, Cfg.clampLow, Cfg.clampHigh,
          Cfg.fallback]
    case pulseEdge change =>
      cases change with
      | high => simp [movedParts] at moved
      | low c => cases c <;> simp [movedParts] at moved
    all_goals simp [movedParts] at moved
  · have same : t.sensor = s.sensor := exec_same h .sensor moved
    have cfg : t.cfg = s.cfg := exec_same h .cfg fun cfgMoved => moved (by
      cases i
      case pulseEdge change =>
        cases change with
        | high => simp [movedParts] at cfgMoved
        | low c => cases c <;> simp [movedParts] at cfgMoved
      all_goals simp [movedParts] at cfgMoved ⊢)
    unfold ValuesWithinLimits
    rw [same, cfg]
    exact ⟨values, one⟩

/-- Settles O24. -/
theorem stepKeepsSensorBus : Obligations.StepKeepsSensorBus := fun _ _ cold values one h =>
  step_keeps_of_exec (P := fun s => ValuesWithinLimits s ∧ OneTransaction s.sensor) ⟨values, one⟩ (fun _ _ => ⟨values, one⟩)
    (fun _ q n hi hs => exec_sensorBus (s := (State.withPending _ q).withChoices n) cold hi hs.1 hs.2) h

end Sys2Proof.Machine
end

section
/-! The node before START and from START on (R178, R181): the configuration that no command changes, the timers that run, and the
cold-reset values that stand in CONFIG. -/

namespace Sys2Proof.Machine

/-! ## The configuration from START on -/

section
variable {b : Scope} {s t : State} (h : Change b s t)
include h

theorem Change.masks : t.alarm.mask1 = s.alarm.mask1 ∧ t.alarm.mask2 = s.alarm.mask2 := by
  cases h
  case quiet same => simp [same.alarm]
  all_goals simp

theorem Change.started (hs : s.peers.mode ≠ .config) : t.peers.mode ≠ .config := by
  cases h
  case quiet same => rwa [same.peers]
  case mode m config => simpa [setMode_peers] using config
  case peers x mode _ => simpa [mode] using hs
  case entry => simpa [setEntry, PeerTable.setEntry] using hs
  all_goals simpa using hs

end

/-- A locked block takes no write, and no command unlocks it (R178). -/
theorem exec_locked {i : Instr} {s t : State} (notReset : ∀ n a x y z, i ≠ .coldReset n a x y z)
    (started : s.peers.mode ≠ .config) (locked : s.port.blockState = .locked) (h : exec i s = .next t) :
    t.port.block = s.port.block ∧ t.port.blockState = .locked := by
  have refused (c : Byte) (r : CommandResult) (n : Nat) (u : State) : (recordCommand c r n u).port.block = u.port.block ∧
      (recordCommand c r n u).port.blockState = u.port.blockState := by
    rw [recordCommand_eq]; exact ⟨rfl, rfl⟩
  by_cases moved : Part.port ∈ movedParts i
  · cases i
    case coldReset => exact absurd rfl (notReset _ _ _ _ _)
    case start =>
      obtain ⟨r, i, runs⟩ | ⟨accepted, -⟩ := exec_start_cases s
      · cases runs.symm.trans h
        simp [refused, locked]
      · exact absurd ((accepted_iff s).1 accepted).1 started
    case pulseEdge change =>
      cases change with
      | high => simp [movedParts] at moved
      | low c => cases c <;> simp [movedParts] at moved
    case hold | resume | pumpReset | leave | join | mark | clearLatches =>
      simp only [exec, execHold, execResume, execPumpReset, execLeave, execJoin, execMark, execClearLatches] at h
      (repeat' split at h) <;> cases h <;> simp [done, refuseState, refused, locked]
    case status | totals | peer | record | nextRecord | config | unrecognisedSelector | transactionAbandoned | unknown |
        commandSelector | writeEndedPartWay =>
      simp only [exec, execStatus, execTotals, execPeer, execRecord, execNextRecord, execConfig, execUnrecognisedSelector,
        execTransactionAbandoned, execUnknown, execCommandSelector, execWriteEndedPartWay] at h
      (repeat' split at h) <;> cases h <;> simp [latch, protocolError, recordLast, locked]
    case configWrite =>
      simp only [exec, execConfigWrite, locked, if_true] at h
      (repeat' split at h) <;> cases h <;> simp [latch, protocolError, recordLast, locked]
    all_goals simp [movedParts] at moved
  · rw [show t.port = s.port from exec_same h .port moved]
    exact ⟨rfl, locked⟩

theorem exec_started {i : Instr} {s t : State} (notReset : ∀ n a x y z, i ≠ .coldReset n a x y z)
    (started : s.peers.mode ≠ .config) (h : exec i s = .next t) : t.peers.mode ≠ .config :=
  exec_keeps_of (P := fun s => s.peers.mode ≠ .config) Change.started
      (fun _ _ _ _ _ reset => absurd reset (notReset _ _ _ _ _))
    (fun accepted => absurd ((accepted_iff s).1 accepted).1 started) (fun _ _ => started) started h started

/-- The configuration in force changes at START and at a cold reset alone (R181). -/
theorem exec_cfg {i : Instr} {s t : State} (notReset : ∀ n a x y z, i ≠ .coldReset n a x y z) (notStart : i ≠ .start)
    (h : exec i s = .next t) : t.cfg = s.cfg := by
  refine exec_same h .cfg fun moved => ?_
  cases i
  case coldReset => exact notReset _ _ _ _ _ rfl
  case start => exact notStart rfl
  case pulseEdge change =>
    cases change with
    | high => simp [movedParts] at moved
    | low c => cases c <;> simp [movedParts] at moved
  all_goals simp [movedParts] at moved

/-- START is refused from START on, and then changes the port alone (R180). -/
theorem exec_start_of_started {s t : State} (started : s.peers.mode ≠ .config) (h : exec .start s = .next t) :
    ∃ r i, t = recordCommand codeStart r i s := by
  obtain ⟨r, i, runs⟩ | ⟨accepted, -⟩ := exec_start_cases s
  · cases runs.symm.trans h
    exact ⟨r, i, rfl⟩
  · exact absurd ((accepted_iff s).1 accepted).1 started

/-- Settles O8. -/
theorem configurationIsLockedUntilColdReset : Obligations.ConfigurationIsLockedUntilColdReset := by
  intro i s t notReset started locked h
  have masks := exec_keeps_of (P := fun u => u.alarm.mask1 = s.alarm.mask1 ∧ u.alarm.mask2 = s.alarm.mask2)
    (fun change hs => by rwa [change.masks.1, change.masks.2]) (fun _ _ _ _ _ reset => absurd reset (notReset _ _ _ _ _))
    (fun accepted => absurd ((accepted_iff s).1 accepted).1 started) (fun _ _ => ⟨rfl, rfl⟩) ⟨rfl, rfl⟩ h ⟨rfl, rfl⟩
  have cfg : t.cfg = s.cfg := by
    by_cases start : i = .start
    · subst start
      obtain ⟨r, i, rfl⟩ := exec_start_of_started started h
      simp
    · exact exec_cfg notReset start h
  obtain ⟨block, state⟩ := exec_locked notReset started locked h
  exact ⟨cfg, block, state, masks.1, masks.2, exec_started notReset started h⟩

/-! ## The cold-reset values in CONFIG -/

/-- Every block stands at its cold-reset values but for what works before START (R12, R188). -/
structure ColdValues (s : State) : Prop where
  mode : s.peers.mode = .config
  cfg : s.cfg = Cfg.none
  pulse : s.pulse = { PulseCounter.reset s.pulse.levelA s.pulse.levelB with preStart := s.pulse.preStart }
  preStart : s.pulse.preStart ≤ 4294967295
  sensor : s.sensor = SensorBus.reset
  conv : s.conv = ConversionUnit.reset
  tally : s.tally = { TallyLine.reset with lineIdle := s.tally.lineIdle }
  peers : s.peers = PeerTable.reset
  dose : s.dose = DoseAccounting.reset
  pump : s.pump = PumpSequencer.reset s.pump.level
  filter : s.filter = ConcentrationFilter.reset
  store : s.store = IntervalStore.reset
  port : s.port.blockState ≠ .locked
  alarm : s.alarm = AlarmUnit.reset

theorem coldUntilStart_iff (s : State) : ColdUntilStart s ↔ (s.peers.mode = .config → ColdValues s) := by
  refine forall_congr' fun config => ⟨?_, ?_⟩
  · rintro ⟨cfg, pulse, preStart, sensor, conv, tally, peers, dose, pump, filter, store, port, alarm⟩
    exact ⟨config, cfg, pulse, preStart, sensor, conv, tally, peers, dose, pump, filter, store, port, alarm⟩
  · rintro ⟨-, cfg, pulse, preStart, sensor, conv, tally, peers, dose, pump, filter, store, port, alarm⟩
    exact ⟨cfg, pulse, preStart, sensor, conv, tally, peers, dose, pump, filter, store, port, alarm⟩

section
variable {s : State} (cold : ColdValues s)
include cold

theorem ColdValues.withPort {x : SupervisoryPort} (state : x.blockState ≠ .locked) : ColdValues (s.withPort x) :=
  { cold with port := state }

theorem ColdValues.withLine (idle : Bool) : ColdValues (s.withTally { s.tally with lineIdle := idle }) :=
  { cold with tally := by rw [cold.tally]; rfl }

theorem ColdValues.withLevel (x : Bool) : ColdValues (s.withPump { s.pump with level := x }) :=
  { cold with pump := by rw [cold.pump]; rfl }

theorem ColdValues.withLevels (x y : Bool) : ColdValues (s.withPulse { s.pulse with levelA := x, levelB := y }) :=
  { cold with pulse := by rw [cold.pulse]; rfl }

theorem ColdValues.withPreStart {n : Nat} (bound : n ≤ 4294967295) :
    ColdValues (s.withPulse { s.pulse with preStart := n }) :=
  { cold with pulse := by rw [cold.pulse]; rfl, preStart := bound }

theorem ColdValues.latch (x : Selector) (d : List Byte) : ColdValues (latch x d s) := cold.withPort cold.port

theorem ColdValues.protocolError : ColdValues (protocolError s) := cold.withPort cold.port

theorem ColdValues.recordLast (k : CommandKind) (c : Byte) (r : CommandResult) (n : Nat) :
    ColdValues (recordLast k c r n s) :=
  cold.withPort cold.port

theorem ColdValues.storeConfig (o : Nat) (d : List Byte) : ColdValues (storeConfig o d s) := by
  unfold Machine.storeConfig
  dsimp only
  split
  · exact (cold.withPort (by simp)).protocolError
  · exact cold.withPort (by simp)

theorem ColdValues.recorded (c : Byte) (r : CommandResult) (i : Nat) : ColdValues (recordCommand c r i s) := by
  rw [recordCommand_eq]
  exact cold.withPort cold.port

/-- In CONFIG no event of the node's own is due, and no frame, poll or stroke is under way. -/
theorem ColdValues.idle : s.cycleDue = false ∧ s.sensor.active = none ∧ s.tally.receiver = .off ∧ s.tally.transmitter =
    .empty ∧
    s.tallyDue = false ∧ s.pump.stroke = none ∧ s.historyDue = false ∧ s.periodDue = false ∧ s.dwellDue = false ∧
    s.intervalDue = false ∧ s.mayStart = false ∧ s.unheardDue = false ∧ s.tally.ownOnLine = none ∧
    (∀ n, (s.peers.entry n).status = .absent) ∧ s.pump.condition = .unset := by
  have mode := cold.mode
  refine ⟨?_, by rw [cold.sensor]; rfl, by rw [cold.tally]; rfl, by rw [cold.tally]; rfl, ?_, by rw [cold.pump]; rfl, ?_,
      ?_, ?_,
    ?_, ?_, ?_, by rw [cold.tally]; rfl, fun n => by rw [cold.peers, entry_of_absent]; rfl, by rw [cold.pump]; rfl⟩
  · rw [State.cycleDue, cold.pulse]; rfl
  · rw [State.tallyDue, cold.tally]; rfl
  · rw [State.historyDue, cold.pump]; rfl
  · rw [State.periodDue, cold.filter]; rfl
  · rw [State.dwellDue, cold.filter]; rfl
  · rw [State.intervalDue, cold.store]; rfl
  · rw [Bool.eq_false_iff, Ne, mayStart_iff]; simp [mode, Mode.isActive]
  · simp [State.unheardDue, mode]

end

/-- Every command but START keeps CONFIG with its cold-reset values. -/
theorem exec_coldValues {i : Instr} {s t : State} (notReset : ∀ n a x y z, i ≠ .coldReset n a x y z) (notStart : i ≠ .start)
    (cold : ColdValues s) (h : exec i s = .next t) : ColdValues t := by
  have config := cold.mode
  obtain ⟨cycle, active, receiver, empty, tally, stroke, history, period, dwell, interval, may, unheard, own, absent,
      unset⟩ :=
    cold.idle
  have unlocked := cold.port
  cases i
  case coldReset => exact absurd rfl (notReset _ _ _ _ _)
  case start => exact absurd rfl notStart
  case pulseEdge change =>
    cases change with
    | high c =>
      cases c <;> simp only [exec, execPulseEdge, countA, countB, State.withPulse_peers, config, if_true, true_or] at h <;>
        split at h <;> cases h
      case high.a.isTrue.refl | high.b.isTrue.refl => exact cold
      case high.a.isFalse.refl =>
        have bound := cold.preStart
        refine (cold.withLevels true s.pulse.levelB).withPreStart ?_
        simp only [State.withPulse_pulse, preStartLimit]
        grind
      case high.b.isFalse.refl => exact cold.withLevels s.pulse.levelA true
    | low c =>
      cases c <;> cases h
      · exact cold.withLevels false s.pulse.levelB
      · exact cold.withLevels s.pulse.levelA false
      · exact cold.withLevel false
  case cycleTimerExpiry | tallyTimerExpiry | historyEntryLeaves | periodTimerExpiry | lowDwellExpiry | intervalTimerExpiry |
      busReleased | busHeld | stretchNotice | stretchAbort | addressNack | transactionEnd | recoveryEnd | receiverSynced |
      frameEnd | holdoffEnd | collision | frameSent | peerExpiry | unheard | strokeStart | spacingRunsOut | fillEnd |
      driveEnd | confirmWindowExpiry | recoverEnd =>
    have same : t = s := by
      simp [exec, execCycleTimerExpiry, execTallyTimerExpiry, execHistoryEntryLeaves, execPeriodTimerExpiry,
        execLowDwellExpiry, execIntervalTimerExpiry, execBusReleased, execBusHeld, execStretchNotice, execStretchAbort,
        execAddressNack, execTransactionEnd, execRecoveryEnd, execReceiverSynced, execFrameEnd, execHoldoffEnd,
        execCollision, execFrameSent, execPeerExpiry, execUnheard, execStrokeStart, execSpacingRunsOut, execFillEnd,
        execDriveEnd, execConfirmWindowExpiry, execRecoverEnd, testStart, State.phaseOver, *] at h
      exact h.symm
    exact same ▸ cold
  case lineIdle =>
    simp only [exec, execLineIdle, if_neg (show s.tally.transmitter ≠ .defer by simp [empty])] at h
    cases h
    exact cold.withLine true
  case deferral =>
    have none_ : (if s.tally.lineIdle = true then none else s.tally.ownOnLine) = s.tally.ownOnLine := by simp [own]
    simp only [exec, execDeferral, if_neg (show s.tally.transmitter ≠ .holdoff by simp [empty]), none_] at h
    cases h
    exact cold.withLine false
  case confirmationPulse =>
    simp only [exec, execConfirmationPulse, config, if_true] at h
    split at h <;> cases h
    · exact cold
    · exact cold.withLevel true
  case hold | resume | pumpReset | leave | join | mark =>
    simp [exec, execHold, execResume, execPumpReset, execLeave, execJoin, execMark, refuseState, config, Mode.isActive] at h
    exact h ▸ cold.recorded _ _ _
  case clearLatches =>
    cases h
    refine ColdValues.recorded (s := clearLatches s) { cold with alarm := ?_ } _ _ _
    simp only [clearLatches, State.withAlarm_alarm, cold.alarm, AlarmUnit.reset]
    simp
  case nextRecord =>
    simp only [exec, execNextRecord] at h
    cases h
    refine { (cold.withPort (x := _) unlocked) with store := ?_ }
    simp only [latch, State.withStore_store, State.withPort_store]
    rw [cold.store]
    rfl
  case status | totals | commandSelector => cases h; exact cold.latch _ _
  case unrecognisedSelector | transactionAbandoned | writeEndedPartWay => cases h; exact cold.protocolError
  case unknown =>
    simp only [exec, execUnknown] at h
    split at h <;> cases h
    · exact cold
    · exact (cold.latch _ _).recordLast _ _ _ _
  case configWrite =>
    simp only [exec, execConfigWrite, if_neg unlocked] at h
    (repeat' split at h) <;> cases h
    · exact cold.latch _ _
    · exact ((cold.latch _ _).storeConfig _ _).recordLast _ _ _ _
    · exact (cold.latch _ _).storeConfig _ _
    · exact cold.protocolError
  case peer | record | config =>
    simp only [exec, execPeer, execRecord, execConfig] at h
    (repeat' split at h) <;> cases h <;> simp only [cold, ColdValues.latch, ColdValues.protocolError]

theorem resetNode_coldValues (n : BitVec 4) (a : BitVec 2) (x y z : Bool) (s : State) :
    ColdValues (resetNode n a x y z s) where
  mode := rfl
  cfg := rfl
  pulse := rfl
  preStart := Nat.zero_le _
  sensor := rfl
  conv := rfl
  tally := rfl
  peers := rfl
  dose := rfl
  pump := rfl
  filter := rfl
  store := rfl
  port := by simp [resetNode, latch, State.coldReset, SupervisoryPort.reset]
  alarm := rfl

/-- Every command keeps the cold-reset values in CONFIG: from START on there is no return to it but a cold reset. -/
theorem exec_coldUntilStart {i : Instr} {s t : State} (h : exec i s = .next t) (hs : ColdUntilStart s) :
    ColdUntilStart t := by
  rw [coldUntilStart_iff] at hs ⊢
  intro config
  by_cases reset : ∃ n a x y z, i = .coldReset n a x y z
  · obtain ⟨n, a, x, y, z, rfl⟩ := reset
    cases h
    exact resetNode_coldValues _ _ _ _ _ _
  · have notReset : ∀ n a x y z, i ≠ .coldReset n a x y z := fun n a x y z same => reset ⟨n, a, x, y, z, same⟩
    have before : s.peers.mode = .config := by
      by_contra started
      exact exec_started notReset started h config
    by_cases start : i = .start
    · subst start
      obtain ⟨r, i, refused⟩ | ⟨-, runs⟩ := exec_start_cases s
      · cases refused.symm.trans h
        exact (hs before).recorded _ _ _
      · cases runs.symm.trans h
        simp [done, startNode_peers] at config
    · exact exec_coldValues notReset start (hs before) h

/-- Settles O13. -/
theorem stepKeepsColdUntilStart : Obligations.StepKeepsColdUntilStart := fun _ _ cold h =>
  step_keeps_of_exec (P := ColdUntilStart) cold (fun _ _ => cold) (fun _ _ _ => exec_coldUntilStart) h

end Sys2Proof.Machine
end

section
/-! The timers: how each command moves them, what runs from START on, and that none of them is outrun (R2, R19, R56, R79, R124,
R133, R147, R155, R161). -/

namespace Sys2Proof.Machine

/-! ## A timer that expires -/

@[simp] theorem reschedule_isSome (since : Option Time) (span : Nat) : (reschedule since span).isSome = since.isSome := by
  simp [reschedule]

@[simp] theorem elapsed_self (now : Time) : elapsed now now = 0 := by
  rw [elapsed, BitVec.sub_self]; rfl

theorem notOverdue_now (now : Time) (span : Nat) : NotOverdue now (some now) span := by
  rintro _ ⟨⟩
  rw [elapsed_self]
  exact Nat.zero_le _

/-- A timer that has not outrun its span and is due has run it exactly, so its next span begins now. -/
theorem notOverdue_reschedule {now : Time} {since : Option Time} {span : Nat} (hs : NotOverdue now since span)
    (due : hasRun now since span = true) : NotOverdue now (reschedule since span) span := by
  obtain ⟨start, rfl, reached⟩ := (hasRun_iff _ _ _).1 due
  have exact_ : (now - start).toNat = span := le_antisymm (hs start rfl) reached
  have next : after start span = now := by
    have this : BitVec.ofNat 64 span = now - start := BitVec.eq_of_toNat_eq (by
      rw [BitVec.toNat_ofNat, Nat.mod_eq_of_lt (exact_ ▸ (now - start).isLt), exact_])
    rw [after, this, BitVec.add_comm, BitVec.sub_add_cancel]
  rw [reschedule, Option.map_some, next]
  exact notOverdue_now _ _

/-- A timer stands, or it was due and its next span begins. -/
def TimerMoves (now : Time) (span : Nat) (was new : Option Time) : Prop :=
  new = was ∨ hasRun now was span = true ∧ new = reschedule was span

theorem TimerMoves.isSome {now : Time} {span : Nat} {was new : Option Time} (h : TimerMoves now span was new) :
    new.isSome = was.isSome := by
  obtain rfl | ⟨-, rfl⟩ := h
  · rfl
  · exact reschedule_isSome _ _

theorem TimerMoves.notOverdue {now : Time} {span : Nat} {was new : Option Time} (h : TimerMoves now span was new)
    (hs : NotOverdue now was span) : NotOverdue now new span := by
  obtain rfl | ⟨due, rfl⟩ := h
  · exact hs
  · exact notOverdue_reschedule hs due

section
variable {i : Instr} {s t : State} (notReset : ∀ n a x y z, i ≠ .coldReset n a x y z) (notStart : i ≠ .start)
  (h : exec i s = .next t)
include notReset notStart h

theorem exec_tallyTimer : TimerMoves s.clock s.cfg.tallyInterval s.tally.timerStart t.tally.timerStart :=
  (exec_line notReset notStart h).1

theorem exec_cycleTimer : TimerMoves s.clock 1000 s.pulse.cycleStart t.pulse.cycleStart ∧
    (s.peers.mode ≠ .config → t.pulse.preStart = s.pulse.preStart) := by
  by_cases moved : Part.pulse ∈ movedParts i
  · cases i
    case coldReset => exact absurd rfl (notReset _ _ _ _ _)
    case start => exact absurd rfl notStart
    case cycleTimerExpiry =>
      simp only [exec, execCycleTimerExpiry] at h
      split at h
      · next due =>
        cases h
        exact ⟨.inr ⟨due, by simp [cycleEnd_pulse, closeCycle]⟩, fun _ => by simp [cycleEnd_pulse, closeCycle]⟩
      · cases h
        exact ⟨.inl rfl, fun _ => rfl⟩
    case pulseEdge change =>
      simp only [exec, execPulseEdge, countA, countB] at h
      (repeat' split at h) <;> cases h <;> simp_all [TimerMoves]
    all_goals simp [movedParts] at moved
  · rw [show t.pulse = s.pulse from exec_same h .pulse moved]
    exact ⟨.inl rfl, fun _ => rfl⟩

theorem exec_intervalTimer :
    TimerMoves s.clock (s.cfg.intervalLength * 60000) s.store.timerStart t.store.timerStart := by
  by_cases moved : Part.timer ∈ movedParts i
  · cases i
    case coldReset => exact absurd rfl (notReset _ _ _ _ _)
    case start => exact absurd rfl notStart
    case intervalTimerExpiry =>
      simp only [exec, execIntervalTimerExpiry] at h
      split at h
      · next due =>
        cases h
        refine .inr ⟨due, ?_⟩
        simp only [closeInterval]
        split <;> simp [openInterval]
      · cases h
        exact .inl rfl
    case pulseEdge change =>
      cases change with
      | high => simp [movedParts] at moved
      | low c => cases c <;> simp [movedParts] at moved
    all_goals simp [movedParts] at moved
  · exact .inl (exec_same h .timer moved)

end

/-! ## What runs from START on -/

section
variable {b : Scope} {s t : State} (h : Change b s t)
include h

theorem Change.current : t.store.current.isSome = s.store.current.isSome := by
  cases h
  case quiet same => rw [same.current]
  all_goals simp [Machine.book, countStroke, countMiss]

theorem Change.periodTimer :
    TimerMoves s.clock (s.cfg.filterPeriod * 1000) s.filter.periodStart t.filter.periodStart := by
  cases h
  case quiet same => exact .inl (by rw [same.filter])
  case filter x kept => exact kept.period
  case throttle => exact .inl (by simp [testThrottle_filter])
  case dwell => exact .inl (by simp [testDwell_filter_frame])
  all_goals refine .inl ?_; simp

/-- The pump is in NONE from START on or never, and never without a condition again. -/
theorem Change.pumpCondition : (t.pump.condition = .unset ↔ s.pump.condition = .unset) ∧
    (t.pump.condition = .none ↔ s.pump.condition = .none) := by
  cases h
  case quiet same => simp [same.pump]
  case pump x kept => simp [kept.condition]
  case condition c was new => simp [setCondition_pump, was, new]
  all_goals simp [beginStroke]

end

/-- What the chains of START on keep of `RunningAfterStart`. -/
def Running (s : State) : Prop :=
  s.store.current.isSome = true ∧ s.filter.periodStart.isSome = true ∧ s.pump.condition ≠ .unset ∧
    (s.pump.condition = .none ↔ s.cfg.capacityClass = 0)

theorem Change.running {b : Scope} {s t : State} (h : Change b s t) (hs : Running s) : Running t := by
  obtain ⟨current, period, set, none_⟩ := hs
  exact ⟨h.current.trans current, h.periodTimer.isSome.trans period, fun unset => set (h.pumpCondition.1.1 unset),
    h.pumpCondition.2.trans (h.frame.1 ▸ none_)⟩

theorem exec_running {i : Instr} {s t : State} (notReset : ∀ n a x y z, i ≠ .coldReset n a x y z)
    (started : s.peers.mode ≠ .config) (h : exec i s = .next t) (hs : Running s) : Running t :=
  exec_keeps_of Change.running (fun _ _ _ _ _ reset => absurd reset (notReset _ _ _ _ _))
    (fun accepted => absurd ((accepted_iff s).1 accepted).1 started)
    (fun _ current => ⟨current.elim id (fun same => same ▸ hs.1), hs.2⟩) hs h hs

theorem startNode_current_isSome (s : State) : (startNode s).store.current.isSome = true := by
  simp [startNode, startIntervals, openInterval]

theorem started_runningAfterStart (s : State) : RunningAfterStart (done codeStart (startIfChanged s (startNode s))) := by
  intro _
  have pump : (startNode s).pump.condition ≠ .unset ∧
      ((startNode s).pump.condition = .none ↔ (readBlock s.port.block).capacityClass = 0) := by
    rw [startNode_pump]
    split <;> simp [*]
  simp only [done, recordCommand_eq, State.withPort_port, SupervisoryPort.recorded, State.withPort_store,
    State.withPort_pump, State.withPort_tally, State.withPort_pulse, State.withPort_filter, State.withPort_cfg]
  simp [startNode_port, startNode_cfg, startNode_tally, startNode_pulse, startNode_filter, startNode_timerStart, pump,
    startNode_current_isSome]

/-- From CONFIG only START leads out of it; from START on each command keeps what runs. -/
theorem exec_runningAfterStart {i : Instr} {s t : State} (cold : ColdUntilStart s) (h : exec i s = .next t)
    (hs : RunningAfterStart s) : RunningAfterStart t := by
  intro running
  by_cases reset : ∃ n a x y z, i = .coldReset n a x y z
  · obtain ⟨n, a, x, y, z, rfl⟩ := reset
    cases h
    exact absurd (by simp [PeerTable.reset]) running
  have notReset : ∀ n a x y z, i ≠ .coldReset n a x y z := fun n a x y z same => reset ⟨n, a, x, y, z, same⟩
  by_cases config : s.peers.mode = .config
  · by_cases start : i = .start
    · subst start
      obtain ⟨r, i, refused⟩ | ⟨-, runs⟩ := exec_start_cases s
      · cases refused.symm.trans h
        exact absurd (by simpa using config) running
      · cases runs.symm.trans h
        exact started_runningAfterStart s running
    · exact absurd (exec_coldValues notReset start ((coldUntilStart_iff s).1 cold config) h).mode running
  · obtain ⟨locked, current, set, receiver, cycle, tally, period, interval, preStart, classless⟩ := hs config
    obtain ⟨current, period, set, classless⟩ := exec_running notReset config h ⟨current, period, set, classless⟩
    have block := (exec_locked notReset config locked h).2
    by_cases start : i = .start
    · subst start
      obtain ⟨r, i, rfl⟩ := exec_start_of_started config h
      exact ⟨block, current, set, by simpa using receiver, by simpa using cycle, by simpa using tally, period,
        by simpa using interval, by simpa using preStart, classless⟩
    · obtain ⟨cycleTimer, counts⟩ := exec_cycleTimer notReset start h
      exact ⟨block, current, set, (exec_line notReset start h).2 receiver, cycleTimer.isSome.trans cycle,
        (exec_tallyTimer notReset start h).isSome.trans tally,
            period, (exec_intervalTimer notReset start h).isSome.trans interval,
        (counts config).trans preStart, classless⟩

/-- Settles O14. -/
theorem stepKeepsRunningAfterStart : Obligations.StepKeepsRunningAfterStart := fun s _ cold hs h =>
  step_keeps_of_exec (P := RunningAfterStart) hs (fun _ _ => hs)
    (fun _ q n hi => exec_runningAfterStart (s := (s.withPending q).withChoices n) cold hi) h

end Sys2Proof.Machine
end

section
/-! That no timer is outrun: time passes only while nothing is due, and every command that moves a timer begins it now. -/

namespace Sys2Proof.Machine

/-! ## The timers that the chains of elementary changes move -/

/-- No phase of the stroke in flight is outrun (R124). -/
def StrokeKept (s : State) : Prop := ∀ k, s.pump.stroke = some k → elapsed s.clock k.phaseStart ≤ s.cfg.phaseTime k.phase

/-- No LIVE entry of the table's sixteen places is outrun (R79). -/
def PlacesKept (s : State) : Prop := ∀ n f, 1 ≤ n → n ≤ 16 → (s.peers.entry n).status = .live f →
  elapsed s.clock (s.peers.entry n).lastHeard ≤ 4 * f.interval

/-- The low-dwell timer is not outrun (R155). -/
def DwellKept (s : State) : Prop := ∀ t, s.filter.dwell = .running t → elapsed s.clock t ≤ s.cfg.lowDwell * 60000

/-- The START CHECK of the running transaction is not outrun (R19). -/
def CheckKept (s : State) : Prop := ∀ q, s.sensor.active = some q → (s.sensor.of q).phase = .startCheck →
  elapsed s.clock (s.sensor.of q).checkStart ≤ 50

section
variable {b : Scope} {s t : State} (h : Change b s t)
include h

theorem Change.strokeKept (hs : StrokeKept s) : StrokeKept t := by
  rw [StrokeKept, h.frame.1, h.frame.2.1]
  cases h
  case quiet same => rwa [same.pump]
  case begin =>
    rw [beginStroke_eq]
    rintro _ ⟨⟩
    simp
  case pump x kept =>
    intro k stroke
    obtain now | ⟨k0, was, phase, start⟩ := kept.phase k stroke
    · simp [now]
    · rw [phase, start]
      exact hs k0 was
  case condition c _ _ =>
    intro k stroke
    rw [setCondition_pump] at stroke
    dsimp only at stroke
    split at stroke
    · obtain ⟨k0, was, rfl⟩ := Option.map_eq_some_iff.1 stroke
      exact hs k0 was
    · exact hs k stroke
  all_goals simpa [StrokeKept] using hs

theorem Change.placesKept (hs : PlacesKept s) : PlacesKept t := by
  rw [PlacesKept, h.frame.2.1]
  cases h
  case quiet same => rwa [same.peers]
  case mode m _ => simpa [PlacesKept, setMode_peers, PeerTable.entry] using hs
  case peers x _ entries => simpa [PlacesKept, PeerTable.entry, entries] using hs
  case entry n e place heard =>
    intro m f low high live
    simp only [setEntry, State.withPeers_peers] at live ⊢
    by_cases same : n - 1 = m - 1
    · by_cases inside : n - 1 < s.peers.entries.length
      · rw [← entry_eq_of_place same, setEntry_same _ _ _ inside] at live ⊢
        rw [heard (by simp [Entry.isLive, live]), elapsed_self]
        exact Nat.zero_le _
      · have unchanged : s.peers.setEntry n e = s.peers := by
          rw [PeerTable.setEntry, List.set_eq_of_length_le (not_lt.1 inside)]
        rw [unchanged] at live ⊢
        exact hs m f low high live
    · rw [setEntry_other _ _ _ _ same] at live ⊢
      exact hs m f low high live
  all_goals simpa [PlacesKept] using hs

theorem Change.dwellKept (hs : DwellKept s) : DwellKept t := by
  rw [DwellKept, h.frame.1, h.frame.2.1]
  cases h
  case quiet same => rwa [same.filter]
  case filter x kept => simpa [DwellKept, kept.dwell] using hs
  case throttle => simpa [DwellKept, testThrottle_filter] using hs
  case dwell =>
    intro start running
    obtain below | reached := Nat.lt_or_ge s.filter.average (s.cfg.lowerLimit * 256)
    · rw [testDwell_filter_of_below below] at running
      dsimp only at running
      split at running
      · cases running; simp
      · exact hs start running
    · rw [testDwell_filter_of_reached reached] at running
      cases running
  case dwellEnds => simp
  all_goals simpa [DwellKept] using hs

theorem Change.historyKept (hs : HistoryKept s.clock s.pump.history s.cfg.windowLength) :
    HistoryKept t.clock t.pump.history t.cfg.windowLength := by
  obtain ⟨short, order, young⟩ := hs
  rw [h.frame.1, h.frame.2.1]
  cases h
  case quiet same => rw [same.pump]; exact ⟨short, order, young⟩
  case begin =>
    rw [beginStroke_eq]
    refine ⟨short, List.pairwise_append.2 ⟨order, List.pairwise_singleton _ _, fun x _ y last => ?_⟩, fun x member => ?_⟩
    · rw [List.mem_singleton.1 last, elapsed_self]
      exact Nat.zero_le _
    · obtain earlier | last := List.mem_append.1 member
      · exact young x earlier
      · rw [List.mem_singleton.1 last, elapsed_self]
        exact Nat.zero_le _
  case pump x kept => exact ⟨short, order.sublist kept.history, fun x member => young x (kept.history.mem member)⟩
  all_goals simpa [setCondition_pump] using ⟨short, order, young⟩

end

/-- What the chains keep of the timers. -/
structure SharedTimersKept (s : State) : Prop where
  period : NotOverdue s.clock s.filter.periodStart (s.cfg.filterPeriod * 1000)
  stroke : StrokeKept s
  entries : PlacesKept s
  dwell : DwellKept s
  history : HistoryKept s.clock s.pump.history s.cfg.windowLength

theorem Change.sharedTimersKept {b : Scope} {s t : State} (h : Change b s t) (hs : SharedTimersKept s) :
    SharedTimersKept t where
  period := by
    rw [h.frame.1, h.frame.2.1]
    exact h.periodTimer.notOverdue hs.period
  stroke := h.strokeKept hs.stroke
  entries := h.placesKept hs.entries
  dwell := h.dwellKept hs.dwell
  history := h.historyKept hs.history

theorem startNode_sharedTimersKept {s : State} (cold : ColdValues s)
    (fields : ∀ i, 1 ≤ i → i ≤ 60 → checkField (readBlock s.port.block) i = true) : SharedTimersKept (startNode s) where
  period := by simpa [startNode_filter] using notOverdue_now _ _
  stroke := by rw [StrokeKept, startNode_pump, cold.pump]; nofun
  entries := by
    intro n f _ _ live
    have absent : (startNode s).peers.entry n = Entry.absent := by
      rw [← entry_of_absent n, startNode_peers, cold.peers]
      rfl
    rw [absent] at live
    cases live
  dwell := by rw [DwellKept, startNode_filter, cold.filter]; nofun
  history := by
    have check := fields 46 (by decide) (by decide)
    simp only [checkField, checkScalar, within] at check
    simp at check
    rw [startNode_pump, cold.pump, startNode_cfg]
    exact ⟨by omega, .nil, nofun⟩

theorem resetNode_sharedTimersKept (n : BitVec 4) (a : BitVec 2) (x y z : Bool) (s : State) :
    SharedTimersKept (resetNode n a x y z s) where
  period := nofun
  stroke := nofun
  entries := by
    intro m f _ _ live
    rw [(resetNode_frame ..).2.2.2.1, entry_of_absent] at live
    cases live
  dwell := nofun
  history := ⟨by simp [Cfg.none], .nil, nofun⟩

theorem exec_sharedTimersKept {i : Instr} {s t : State} (cold : ColdUntilStart s) (h : exec i s = .next t)
    (hs : SharedTimersKept s) : SharedTimersKept t :=
  exec_keeps_of Change.sharedTimersKept (fun _ _ _ _ _ _ => resetNode_sharedTimersKept _ _ _ _ _ _)
    (fun accepted =>
      have ⟨config, _, _, fields⟩ := (accepted_iff s).1 accepted
      startNode_sharedTimersKept ((coldUntilStart_iff s).1 cold config) fields)
    (fun _ _ => ⟨hs.period, hs.stroke, hs.entries, hs.dwell, hs.history⟩)
    ⟨hs.period, hs.stroke, hs.entries, hs.dwell, hs.history⟩ h hs

/-! ## The START CHECK -/

theorem pressure_idle_of_active {b : SensorBus} (active : b.active = some .temperature) : b.pressure.phase = .idle := by
  unfold SensorBus.active at active
  split at active
  · cases active
  · next idle => exact not_not.1 idle

theorem active_set {b : SensorBus} {q : Quantity} {y : Transmitter} (active : b.active = some q) (runs : y.phase ≠ .idle) :
    (b.set q y).active = some q ∧ (b.set q y).of q = y := by
  cases q with
  | pressure => exact ⟨if_pos runs, rfl⟩
  | temperature =>
    have idle := pressure_idle_of_active active
    exact ⟨by simp [SensorBus.set, SensorBus.active, idle, runs], rfl⟩

theorem BusMove.checkKept {s : State} {b : SensorBus} (move : BusMove s b) (hs : CheckKept s) :
    CheckKept (s.withSensor b) := by
  intro r active check
  rw [State.withSensor_sensor] at active check ⊢
  cases move with
  | same => exact hs r active check
  | moves q y was value phase =>
    obtain ⟨past, runs⟩ := phase
    obtain ⟨still, there⟩ := active_set was runs
    obtain rfl : q = r := Option.some.inj (still.symm.trans active)
    exact absurd (there ▸ check) past
  | ends q y was value =>
    cases q with
    | pressure =>
      cases r with
      | pressure => cases check
      | temperature => simp [SensorBus.ended, SensorBus.of]
    | temperature =>
      have idle := pressure_idle_of_active was
      cases r with
      | pressure => exact absurd (idle.symm.trans check) (by decide)
      | temperature => cases check

/-- The poll of a cycle end begins its START CHECK now, or the one that runs goes on (R16, R17). -/
theorem cycleEnd_checkKept {s : State} (hs : CheckKept s) : CheckKept (cycleEnd s) := by
  intro r active check
  rw [(cycleEnd_frame s).1]
  by_cases idle : s.sensor.pressure.phase = .idle ∧ s.sensor.temperature.phase = .idle
  · rw [cycleEnd_sensor_of_idle idle.1 idle.2] at active check ⊢
    cases r with
    | pressure => simp [SensorBus.of]
    | temperature => exact absurd (idle.2.symm.trans check) (by decide)
  · rw [cycleEnd_sensor_of_busy (not_and_or.1 idle)] at active check ⊢
    have before := hs r active
    cases r
    · exact before check
    · exact before check

/-- Time passes between commands alone: only a cold reset sets the clock. -/
theorem exec_clock {i : Instr} {s t : State} (notReset : ∀ n a x y z, i ≠ .coldReset n a x y z) (h : exec i s = .next t) :
    t.clock = s.clock := by
  obtain ⟨u, runs, clock, -⟩ := commandsNeverStopAndKeepTheClock i s notReset
  cases runs.symm.trans h
  exact clock

theorem exec_checkKept {i : Instr} {s t : State} (notReset : ∀ n a x y z, i ≠ .coldReset n a x y z) (notStart : i ≠ .start)
    (h : exec i s = .next t) (hs : CheckKept s) : CheckKept t := by
  have clock : t.clock = s.clock := exec_clock notReset h
  suffices kept : CheckKept (s.withSensor t.sensor) by rw [CheckKept, clock]; exact kept
  by_cases moved : Part.sensor ∈ movedParts i
  · cases i
    case coldReset => exact absurd rfl (notReset _ _ _ _ _)
    case start => exact absurd rfl notStart
    case busReleased | busHeld | stretchNotice | stretchAbort | addressNack | transactionEnd | recoveryEnd =>
      exact (exec_busMove rfl h).checkKept hs
    case cycleTimerExpiry =>
      simp only [exec, execCycleTimerExpiry] at h
      split at h <;> cases h
      · simpa [CheckKept] using cycleEnd_checkKept hs
      · exact hs
    case pulseEdge change =>
      cases change with
      | high => simp [movedParts] at moved
      | low c => cases c <;> simp [movedParts] at moved
    all_goals simp [movedParts] at moved
  · rw [show t.sensor = s.sensor from exec_same h .sensor moved]
    exact hs

/-! ## The commands and the clock -/

theorem timersKept_iff (s : State) : TimersKept s ↔ NotOverdue s.clock s.pulse.cycleStart 1000 ∧
    NotOverdue s.clock s.tally.timerStart s.cfg.tallyInterval ∧
    NotOverdue s.clock s.store.timerStart (s.cfg.intervalLength * 60000) ∧ SharedTimersKept s ∧ CheckKept s := by
  constructor
  · rintro ⟨cycle, tally, period, interval, stroke, entries, dwell, check, history⟩
    exact ⟨cycle, tally, interval, ⟨period, stroke, entries, dwell, history⟩, check⟩
  · rintro ⟨cycle, tally, interval, ⟨period, stroke, entries, dwell, history⟩, check⟩
    exact ⟨cycle, tally, period, interval, stroke, entries, dwell, check, history⟩

theorem started_timersKept {s : State} (cold : ColdValues s)
    (shared : SharedTimersKept (done codeStart (startIfChanged s (startNode s)))) :
    TimersKept (done codeStart (startIfChanged s (startNode s))) := by
  refine (timersKept_iff _).2 ⟨?cycle, ?tally, ?interval, shared, ?check⟩
  case cycle => simpa [done, startNode_pulse] using notOverdue_now _ _
  case tally => simpa [done, startNode_tally] using notOverdue_now _ _
  case interval => simpa [done, startNode_timerStart] using notOverdue_now _ _
  case check =>
    intro q active check
    simp only [done, recordCommand_frame, startIfChanged_frame, startNode_sensor, cold.sensor] at active check ⊢
    cases q with
    | pressure => simp [SensorBus.of]
    | temperature => cases active

theorem exec_timersKept {i : Instr} {s t : State} (cold : ColdUntilStart s) (h : exec i s = .next t) (hs : TimersKept s) :
    TimersKept t := by
  obtain ⟨cycle, tally, interval, shared, check⟩ := (timersKept_iff s).1 hs
  have sharedAfter := exec_sharedTimersKept cold h shared
  by_cases reset : ∃ n a x y z, i = .coldReset n a x y z
  · obtain ⟨n, a, x, y, z, rfl⟩ := reset
    cases h
    exact (timersKept_iff _).2 ⟨nofun, nofun, nofun, sharedAfter, nofun⟩
  have notReset : ∀ n a x y z, i ≠ .coldReset n a x y z := fun n a x y z same => reset ⟨n, a, x, y, z, same⟩
  by_cases start : i = .start
  · subst start
    obtain ⟨r, i, refused⟩ | ⟨accepted, runs⟩ := exec_start_cases s
    · cases refused.symm.trans h
      rw [recordCommand_eq]
      exact hs
    · cases runs.symm.trans h
      exact started_timersKept ((coldUntilStart_iff s).1 cold ((accepted_iff s).1 accepted).1) sharedAfter
  · have clock : t.clock = s.clock := exec_clock notReset h
    have cfg := exec_cfg notReset start h
    refine (timersKept_iff t).2 ⟨?_, ?_, ?_, sharedAfter, exec_checkKept notReset start h check⟩ <;> rw [clock]
    · exact (exec_cycleTimer notReset start h).1.notOverdue cycle
    · exact cfg ▸ (exec_tallyTimer notReset start h).notOverdue tally
    · exact cfg ▸ (exec_intervalTimer notReset start h).notOverdue interval

/-- While a span is not yet run, one more millisecond does not outrun it. -/
theorem elapsed_tick {now start : Time} {span : Nat} (early : elapsed now start < span) : elapsed (now + 1) start ≤ span := by
  unfold elapsed at *
  bv_omega

theorem notOverdue_tick {now : Time} {since : Option Time} {span : Nat} (idle : hasRun now since span = false) :
    NotOverdue (now + 1) since span := by
  rintro start rfl
  refine elapsed_tick (not_le.1 fun reached => ?_)
  simp [(hasRun_iff _ _ _).2 ⟨start, rfl, reached⟩] at idle

theorem historyKept_tick {now : Time} {history : List Time} {window : Nat} (hs : HistoryKept now history window)
    (idle : hasRun now history.head? window = false) : HistoryKept (now + 1) history window := by
  obtain ⟨short, order, young⟩ := hs
  have early : ∀ x ∈ history, elapsed now x < window := by
    intro x member
    cases history with
    | nil => cases member
    | cons first rest =>
      have oldest : elapsed now x ≤ elapsed now first := by
        obtain rfl | later := List.mem_cons.1 member
        · exact le_rfl
        · exact (List.pairwise_cons.1 order).1 x later
      simp only [List.head?_cons, hasRun, decide_eq_false_iff_not, not_le] at idle
      exact oldest.trans_lt idle
  refine ⟨short, order.imp_of_mem fun {x y} hx hy older => ?_, fun x hx => elapsed_tick (early x hx)⟩
  have := early x hx
  have := early y hy
  unfold elapsed at *
  bv_omega

theorem busHeldDue_of_check {s : State} {q : Quantity} (active : s.sensor.active = some q)
    (check : (s.sensor.of q).phase = .startCheck) (reached : 50 ≤ elapsed s.clock (s.sensor.of q).checkStart) :
    s.busHeldDue = true := by
  simp only [State.busHeldDue, active, check, beq_self_eq_true, Bool.true_and, decide_eq_true_eq]
  exact reached

theorem tick_sharedTimersKept {s : State} (idle : s.dueCommands = []) (hs : SharedTimersKept s) :
    SharedTimersKept (tick s) := by
  have notDue (i : Instr) : i ∉ s.dueCommands := by simp [idle]
  refine ⟨?period, ?stroke, ?entries, ?dwell, ?history⟩
  case period =>
    have early : s.periodDue = false := Bool.eq_false_iff.2 fun due => notDue .periodTimerExpiry
        (by simp [State.dueCommands, due])
    exact notOverdue_tick early
  case stroke =>
    intro k stroke
    refine elapsed_tick (not_le.1 fun reached => ?_)
    have ends : s.phaseOver k.phase = true := (phaseOver_iff s _).2 ⟨k, stroke, rfl, reached⟩
    cases phase : k.phase <;> rw [phase] at ends
    · exact notDue .fillEnd (by simp [State.dueCommands, ends])
    · exact notDue .driveEnd (by simp [State.dueCommands, ends])
    · exact notDue .confirmWindowExpiry (by simp [State.dueCommands, ends])
    · exact notDue .recoverEnd (by simp [State.dueCommands, ends])
  case entries =>
    intro n f low high live
    refine elapsed_tick (not_le.1 fun reached => ?_)
    exact notDue (.peerExpiry n) (by simp [State.dueCommands, mem_duePeers, low,
        high, (peerDue_iff s n).2 ⟨f, live, reached⟩])
  case dwell =>
    intro start running
    refine elapsed_tick (not_le.1 fun reached => ?_)
    exact notDue .lowDwellExpiry (by simp [State.dueCommands, (dwellDue_iff s).2 ⟨start, running, reached⟩])
  case history =>
    have early : s.historyDue = false := Bool.eq_false_iff.2 fun due => notDue .historyEntryLeaves
        (by simp [State.dueCommands, due])
    exact historyKept_tick hs.history early

/-- Time passes only while nothing is due, so it passes no timer's end. -/
theorem tick_timersKept {s : State} (idle : s.dueCommands = []) (hs : TimersKept s) : TimersKept (tick s) := by
  have notDue (i : Instr) : i ∉ s.dueCommands := by simp [idle]
  obtain ⟨cycle, tally, interval, shared, check⟩ := (timersKept_iff s).1 hs
  refine (timersKept_iff _).2 ⟨?cycle, ?tally, ?interval, tick_sharedTimersKept idle shared, ?check⟩
  case cycle =>
    have early : s.cycleDue = false := Bool.eq_false_iff.2 fun due => notDue .cycleTimerExpiry
        (by simp [State.dueCommands, due])
    exact notOverdue_tick early
  case tally =>
    have early : s.tallyDue = false := Bool.eq_false_iff.2 fun due => notDue .tallyTimerExpiry
        (by simp [State.dueCommands, due])
    exact notOverdue_tick early
  case interval =>
    have early : s.intervalDue = false := Bool.eq_false_iff.2 fun due => notDue .intervalTimerExpiry
        (by simp [State.dueCommands, due])
    exact notOverdue_tick early
  case check =>
    intro q active check
    refine elapsed_tick (not_le.1 fun reached => ?_)
    have held : s.busHeldDue = true := busHeldDue_of_check active check reached
    exact notDue .busHeld (by simp [State.dueCommands, held])

/-- Settles O25. -/
theorem stepKeepsTimers : Obligations.StepKeepsTimers := by
  intro s t cold hs h
  obtain ⟨idle, rfl⟩ | ⟨i, rest, n, runs⟩ := step_inversion h
  · exact tick_timersKept idle hs
  · exact exec_timersKept (s := (s.withPending rest).withChoices n) cold runs hs

end Sys2Proof.Machine
end

section
/-! The transmitter of the tally line: the TALLY that falls due, a lost attempt, and a frame sent (sections 4.3 and 4.4). -/

namespace Sys2Proof.Machine

/-! ## The heard set -/

theorem heardBits_getLsbD (entries : List Entry) : ∀ (k : Nat) {j : Nat}, j < 16 →
    (heardBits entries ((1 : BitVec 16) <<< k)).getLsbD j =
      (decide (k ≤ j) && (entries.getD (j - k) Entry.absent).isLive) := by
  induction entries with
  | nil =>
    intro k j _
    simp [heardBits, Entry.isLive, Entry.absent]
  | cons e rest ih =>
    intro k j inside
    have next : ((1 : BitVec 16) <<< k) <<< 1 = (1 : BitVec 16) <<< (k + 1) := by rw [← BitVec.shiftLeft_add]
    rw [heardBits, next, BitVec.getLsbD_or, ih (k + 1) inside]
    have own : (if e.isLive then (1 : BitVec 16) <<< k else 0).getLsbD j = (decide (j = k) && e.isLive) := by
      cases e.isLive <;> simp [inside]
      rw [Bool.eq_iff_iff]
      simp
      omega
    rw [own]
    obtain below | rfl | above := lt_trichotomy j k
    · have : ¬k + 1 ≤ j := by omega
      simp [below.ne, below.not_ge, this]
    · simp
    · obtain ⟨d, rfl⟩ : ∃ d, j = k + 1 + d := ⟨j - (k + 1), by omega⟩
      have shift : k + 1 + d - k = d + 1 := by omega
      have apart : k + 1 + d ≠ k := by omega
      have least : k ≤ k + 1 + d := by omega
      simp [shift, apart, least]

theorem heardSet_getLsbD {b : PeerTable} {n : Nat} (low : 1 ≤ n) (high : n ≤ 16) :
    b.heardSet.getLsbD (n - 1) = (b.entry n).isLive := by
  have bits := heardBits_getLsbD b.entries 0 (j := n - 1) (by omega)
  simpa [PeerTable.heardSet, PeerTable.entry] using bits

/-! ## The frame that falls due -/

theorem pending_tallyNow (s : State) : s.tallyNow =
    { node := BitVec.ofNat 8 s.nodeNumber, sequence := s.tally.sequence,
      intervalCode := BitVec.ofNat 8 (s.cfg.tallyInterval / 250),
      shared := s.peers.mode == .shared || s.peers.mode.isSolo && s.peers.switchPending,
      capacity := BitVec.ofNat 8 s.advertised, litres := BitVec.ofNat 32 (s.conv.base.toNat / 1000000),
      delivered := s.dose.delivered.setWidth 32, released := s.dose.released.setWidth 32,
      debt := BitVec.ofNat 32 s.dose.debt, target := BitVec.ofNat 16 s.cfg.doseTarget, heard := s.peers.heardSet } := by
  have volume : (litres s.conv.base).setWidth 32 = BitVec.ofNat 32 (s.conv.base.toNat / 1000000) := by
    apply BitVec.eq_of_toNat_eq
    simp [litres]
  rw [State.tallyNow, volume]

/-- A frame abandoned moves the counts of the line and LINK FAULT alone (R62). -/
theorem countAbandoned_eq (r : Bool) (s : State) : countAbandoned r s =
    (s.withTally { s.tally with abandoned := s.tally.abandoned + 1,
                                replaced := if r then s.tally.replaced + 1 else s.tally.replaced,
                                consecutive := min 255 (s.tally.consecutive + 1) }).withAlarm (countAbandoned r s).alarm := by
  simp only [countAbandoned, testLinkFault]
  rw [setLevel_eq_withAlarm]
  rfl

theorem exec_tallyTimerExpiry_due {s : State} {t0 : Time} (start : s.tally.timerStart = some t0)
    (due : s.cfg.tallyInterval ≤ (s.clock - t0).toNat) : exec .tallyTimerExpiry s = .next
      (if s.peers.mode.isActive then fallDue .tally (s.withTally { s.tally with
          timerStart := some (t0 + BitVec.ofNat 64 s.cfg.tallyInterval) })
        else s.withTally { s.tally with timerStart := some (t0 + BitVec.ofNat 64 s.cfg.tallyInterval) }) := by
  have reached : s.tallyDue = true := (hasRun_iff _ _ _).2 ⟨t0, start, due⟩
  simp only [exec, execTallyTimerExpiry, reached, if_true, start, reschedule, Option.map_some, after, State.withTally_peers]
  split <;> rfl

theorem fallDue_of_waiting {k : Owed} {s : State} (waits : s.tally.transmitter = .defer ∨ s.tally.transmitter = .holdoff) :
    fallDue k s = build k (countAbandoned true s) := by
  obtain defer | holdoff := waits
  · simp [fallDue, defer]
  · simp [fallDue, holdoff]

/-- A TALLY built takes the next sequence and waits on the line (R57, R59). -/
theorem build_tally (s : State) : build .tally s = s.withTally { s.tally with
    pending := some { frame := .tally s.tallyNow, builtShared := s.peers.mode == .shared },
    sequence := s.tally.sequence + 1, attempt := 0, holdoff := s.nodeNumber * 8,
    transmitter := if s.tally.lineIdle then .holdoff else .defer } := by
  simp [build, makePending, holdoffLength]

/-- Settles O39. -/
theorem tallyTimerBuildsTheFrame : Obligations.TallyTimerBuildsTheFrame := by
  intro s t0 p start due frame
  rw [exec_tallyTimerExpiry_due start due]
  have built : p = { frame := .tally s.tallyNow, builtShared := s.peers.mode == .shared } := by rw [frame, pending_tallyNow]
  subst built
  refine ⟨fun n low high => heardSet_getLsbD low high, ?none, ?owed, ?empty, ?replaced⟩
  case none =>
    rintro (inactive | silent)
    · simp [inactive]
    · split
      · rw [fallDue_silent _ _ (by simpa using silent)]
      · rfl
  case owed =>
    intro active sending
    simp [active, fallDue, sending]
  case empty =>
    intro active empty
    rw [if_pos active]
    simp only [fallDue, State.withTally_tally, empty, build_tally]
    rfl
  case replaced =>
    intro active waits
    generalize rescheduled : s.withTally { s.tally with timerStart := some (t0 + BitVec.ofNat 64 s.cfg.tallyInterval) } = u
    have stillWaits : u.tally.transmitter = .defer ∨ u.tally.transmitter = .holdoff := by simpa [← rescheduled] using waits
    refine ⟨s.withAlarm (countAbandoned true u).alarm, ?_, rfl, ?_⟩
    · rw [if_pos active, fallDue_of_waiting stillWaits, build_tally, countAbandoned_eq, ← rescheduled]
      rfl
    · have counted := countAbandoned_isTrue true .linkFault u
      rw [if_pos rfl] at counted
      rw [show (s.withAlarm (countAbandoned true u).alarm).isTrue .linkFault =
          (countAbandoned true u).isTrue .linkFault from rfl,
        counted, ← rescheduled]
      simp

/-! ## A lost attempt -/

theorem buildOwed_none {s : State} (h : s.tally.owed = .none) : buildOwed s = s := by
  have same : { s.tally with owed := .none } = s.tally := by rw [← h]
  rw [buildOwed, h, build, same]
  rfl

theorem makePending_eq (f : Frame) (s : State) : makePending f s = s.withTally { s.tally with
    pending := some { frame := f, builtShared := s.peers.mode == .shared },
    sequence := s.tally.sequence + 1, attempt := 0, holdoff := s.nodeNumber * 8,
    transmitter := if s.tally.lineIdle then .holdoff else .defer } := by
  simp [makePending, holdoffLength]

/-- A frame that was owed is built with the next sequence (R60, R61). -/
theorem build_of_some {k : Owed} (some_ : k ≠ .none) (s : State) : ∃ f : Frame, build k s = makePending f s ∧
    f.sequence = s.tally.sequence ∧ f.node = BitVec.ofNat 8 s.nodeNumber ∧
    ((∃ g, f = .leave g ∧ g.released = s.dose.released.setWidth 32) ↔ k = .leave) := by
  cases k with
  | none => exact absurd rfl some_
  | tally => exact ⟨.tally s.tallyNow, rfl, rfl, rfl, by simp⟩
  | leave => exact ⟨.leave s.leaveNow, rfl, rfl, rfl, by simp [State.leaveNow]⟩

/-- The owed frame is built in place of a frame abandoned (R60). -/
theorem buildOwed_countAbandoned (r : Bool) {s : State} (some_ : s.tally.owed ≠ .none) (busy : s.tally.lineIdle = false) :
    ∃ f : Frame, buildOwed (countAbandoned r s) = (s.withTally { s.tally with
        transmitter := .defer, attempt := 0, pending := some { frame := f, builtShared := s.peers.mode == .shared },
        owed := .none, sequence := s.tally.sequence + 1, holdoff := s.nodeNumber * 8, abandoned := s.tally.abandoned + 1,
        replaced := if r then s.tally.replaced + 1 else s.tally.replaced,
        consecutive := min 255 (s.tally.consecutive + 1) }).withAlarm (countAbandoned r s).alarm ∧
      f.sequence = s.tally.sequence ∧ f.node = BitVec.ofNat 8 s.nodeNumber ∧
      ((∃ g, f = .leave g ∧ g.released = s.dose.released.setWidth 32) ↔ s.tally.owed = .leave) := by
  have kept : (countAbandoned r s).tally.owed = s.tally.owed := by rw [countAbandoned_tally]
  obtain ⟨f, built, sequence, node, leaves⟩ := build_of_some (kept ▸ some_)
    ((countAbandoned r s).withTally { (countAbandoned r s).tally with owed := .none })
  refine ⟨f, ?_, ?_, ?_, ?_⟩
  · have waits : TxState.defer = if s.tally.lineIdle then .holdoff else .defer := by simp [busy]
    rw [buildOwed, built, makePending_eq, countAbandoned_eq]
    conv_rhs => rw [waits]
    rfl
  · simpa [countAbandoned_tally] using sequence
  · simpa using node
  · simpa [kept] using leaves

theorem withAlarm_isTrue (s t : State) (c : Cond) : (s.withAlarm t.alarm).isTrue c = t.isTrue c := rfl

theorem countAbandoned_linkFault (r : Bool) (s : State) :
    (countAbandoned r s).isTrue .linkFault = true ↔ 8 ≤ min 255 (s.tally.consecutive + 1) := by
  rw [countAbandoned_isTrue, if_pos rfl, decide_eq_true_eq]

/-- Settles O40. -/
theorem collisionsRetryOrAbandon : Obligations.CollisionsRetryOrAbandon := by
  intro s sending
  generalize lost : s.withTally { s.tally with collisions := s.tally.collisions + 1, lineIdle := false } = u
  have runs : exec .collision s = .next (if s.tally.attempt < 3 then loseAttempt u else abandonFrame u) := by
    have more : s.tally.attempt + 1 < 4 ↔ s.tally.attempt < 3 := Nat.succ_lt_succ_iff
    simp only [exec, execCollision, if_pos sending, lost, more]
    split <;> rfl
  rw [runs]
  refine ⟨?retry, ?fourth, ?owed⟩
  case retry =>
    intro more none_
    simp [more, loseAttempt, ← lost, none_]
  case fourth =>
    intro fourth none_
    have last : ¬s.tally.attempt < 3 := fourth.not_gt
    rw [if_neg last, abandonFrame, buildOwed_none (by simp [countAbandoned_tally, ← lost, none_]), countAbandoned_eq, ← lost]
    exact ⟨_, rfl, rfl, rfl, countAbandoned_linkFault _ _⟩
  case owed =>
    intro some_
    have owed : u.tally.owed ≠ .none := by simpa [← lost] using some_
    split
    · next more =>
      obtain ⟨f, built, facts⟩ := buildOwed_countAbandoned true (s := u.withTally { u.tally with
        transmitter := .defer, attempt := u.tally.attempt + 1 }) owed (by simp [← lost])
      simp only [loseAttempt, if_neg owed]
      rw [built]
      subst lost
      exact ⟨_, f, rfl, rfl, rfl, facts.1, facts.2.1, facts.2.2, countAbandoned_linkFault _ _⟩
    · next last =>
      obtain ⟨f, built, facts⟩ := buildOwed_countAbandoned false (s := u.withTally { u.tally with
        transmitter := .empty, attempt := 0, pending := none }) owed (by simp [← lost])
      rw [abandonFrame, built]
      subst lost
      exact ⟨_, f, rfl, rfl, rfl, facts.1, facts.2.1, facts.2.2, countAbandoned_linkFault _ _⟩

/-! ## Leaving SHARED -/

theorem leaveShared_dose (c : SoloCause) (s : State) :
    (leaveShared c s).dose = s.dose.surrendering s.peers.lastSharedDebt := by
  simp [leaveShared, surrender_surrendering, setMode_peers]

theorem leaveShared_isTrue (c : SoloCause) (d : Cond) (s : State) (fault : d ≠ .pumpFault) (strained : d ≠ .pumpStrained) :
    (leaveShared c s).isTrue d = (setMode (.solo c) s).isTrue d := by
  simp [leaveShared, surrender_isTrue d _ fault strained]

theorem aloneIfNone_of_stays {s : State} (h : s.peers.mode ≠ .shared ∨ s.peers.liveCount ≠ 0) : aloneIfNone s = s :=
  if_neg fun alone => h.elim (absurd alone.1) (absurd alone.2)

theorem aloneIfNone_of_none {s : State} (shared : s.peers.mode = .shared) (none_ : s.peers.liveCount = 0) :
    aloneIfNone s = leaveShared .alone s := if_pos ⟨shared, none_⟩

/-! ## A frame sent -/

/-- The table in which a switch to SHARED has taken effect (R84). -/
def PeerTable.switched (b : PeerTable) (debt : BitVec 32) (now : Time) : PeerTable :=
  { b with mode := .shared, switchPending := false, lastSharedDebt := debt, lastListed := some now }

/-- The state in which a SHARED TALLY has taken the node to SHARED, before it looks for LIVE entries (R84). -/
def enterShared (debt : BitVec 32) (s : State) : State :=
  (startIfChanged s (setMode .shared s)).withPeers (s.peers.switched debt s.clock)

theorem switchToShared_eq (debt : BitVec 32) (s : State) : switchToShared debt s = aloneIfNone (enterShared debt s) := by
  simp [switchToShared, enterShared, PeerTable.switched, setMode_peers]

theorem enterShared_dose (debt : BitVec 32) (s : State) : (enterShared debt s).dose = s.dose := by simp [enterShared]

theorem switchToShared_of_live {debt : BitVec 32} {s : State} (live : 0 < s.peers.liveCount) :
    (switchToShared debt s).dose = s.dose ∧ (switchToShared debt s).peers = s.peers.switched debt s.clock := by
  have stays : (enterShared debt s).peers.liveCount ≠ 0 := Nat.ne_of_gt live
  rw [switchToShared_eq, aloneIfNone_of_stays (.inr stays)]
  exact ⟨enterShared_dose _ _, rfl⟩

theorem switchToShared_of_none {debt : BitVec 32} {s : State} (none_ : s.peers.liveCount = 0) :
    (switchToShared debt s).dose = s.dose.surrendering debt ∧
      (switchToShared debt s).peers = { s.peers.switched debt s.clock with mode := .solo .alone } ∧
      (switchToShared debt s).isTrue .alone = true := by
  have alone : aloneIfNone (enterShared debt s) = leaveShared .alone (enterShared debt s) := aloneIfNone_of_none rfl none_
  rw [switchToShared_eq, alone, leaveShared_dose, leaveShared_peers, leaveShared_isTrue _ .alone _ nofun nofun,
      setMode_isTrue,
    enterShared_dose]
  exact ⟨rfl, rfl, rfl⟩

theorem switchToShared_linkFault (debt : BitVec 32) (s : State) :
    (switchToShared debt s).isTrue .linkFault = s.isTrue .linkFault := by
  have entered : (enterShared debt s).isTrue .linkFault = s.isTrue .linkFault := by simp [enterShared, setMode_isTrue]
  rw [switchToShared_eq]
  unfold aloneIfNone
  split
  · rw [leaveShared_isTrue _ .linkFault _ nofun nofun, setMode_isTrue]
    simpa using entered
  · exact entered

theorem switchToShared_released (debt : BitVec 32) (s : State) : (switchToShared debt s).dose.released = s.dose.released := by
  by_cases none_ : s.peers.liveCount = 0
  · rw [(switchToShared_of_none none_).1]
    rfl
  · rw [(switchToShared_of_live (Nat.pos_of_ne_zero none_)).1]

section
variable {p : Pending} {s : State}

theorem reportSent_of_not_shared (h : ∀ f, p.frame = .tally f → f.shared = false) : reportSent p s = s := by
  unfold reportSent
  split
  · rfl
  · next f frame => simp [h f frame]

variable {f : TallyFrame} (frame : p.frame = .tally f) (shared : f.shared = true)
include frame shared

theorem reportSent_of_shared (mode : s.peers.mode = .shared) :
    reportSent p s = s.withPeers { s.peers with lastSharedDebt := f.debt } := by
  simp [reportSent, frame, shared, mode]

theorem reportSent_of_switch (mode : s.peers.mode.maySwitch = true) (built : p.builtShared = false) :
    reportSent p s = switchToShared f.debt s := by
  cases m : s.peers.mode with
  | solo c => cases c <;> simp_all [reportSent, Mode.maySwitch]
  | config | shared | parked => simp [m, Mode.maySwitch] at mode

theorem reportSent_of_other (mode : s.peers.mode = .solo .duplicate ∨ s.peers.mode = .parked ∨ s.peers.mode = .config ∨
    (s.peers.mode.isSolo = true ∧ p.builtShared = true)) : reportSent p s = s := by
  obtain duplicate | parked | config | ⟨solo, built⟩ := mode
  · simp [reportSent, frame, shared, duplicate]
  · simp [reportSent, frame, shared, parked]
  · simp [reportSent, frame, shared, config]
  · cases m : s.peers.mode with
    | solo c => cases c <;> simp [reportSent, frame, shared, m, built]
    | config | shared | parked => simp [m, Mode.isSolo] at solo

end

theorem reportSent_linkFault (p : Pending) (s : State) : (reportSent p s).isTrue .linkFault = s.isTrue .linkFault := by
  unfold reportSent
  split
  · rfl
  · split
    · split
      · rfl
      · rfl
      · split
        · rfl
        · exact switchToShared_linkFault _ _
      · rfl
      · rfl
    · rfl

theorem reportSent_released (p : Pending) (s : State) : (reportSent p s).dose.released = s.dose.released := by
  unfold reportSent
  (repeat' split) <;> simp [switchToShared_released]

/-- What the build of an owed frame leaves of the line. -/
theorem buildOwed_frameCounts (s : State) : (buildOwed s).tally.sent = s.tally.sent ∧
    (buildOwed s).tally.consecutive = s.tally.consecutive ∧ (buildOwed s).tally.owed = .none ∧
    (s.tally.attempt = 0 → (buildOwed s).tally.attempt = 0) ∧ (buildOwed s).tally.ownOnLine = s.tally.ownOnLine ∧
    (buildOwed s).tally.lineIdle = s.tally.lineIdle := by
  cases owed : s.tally.owed with
  | none => rw [buildOwed_none owed]; exact ⟨rfl, rfl, owed, id, rfl, rfl⟩
  | tally => simp [buildOwed, owed, build, makePending_tally]
  | leave => simp [buildOwed, owed, build, makePending_tally]

/-- The line when the frame has been sent, before its report (R61). -/
def TallyLine.sentFrame (x : TallyLine) (p : Pending) : TallyLine :=
  { x with sent := x.sent + 1, consecutive := 0, attempt := 0, pending := none, transmitter := .empty, lineIdle := false,
           ownOnLine := some p.frame }

/-- Settles O41. -/
theorem frameSentCountsAndReports : Obligations.FrameSentCountsAndReports := by
  intro s p sending pending
  generalize counted : setLevel .linkFault false (s.withTally (s.tally.sentFrame p)) = u
  have runs : exec .frameSent s = .next (startIfChanged s (buildOwed (reportSent p u))) := by
    simp only [exec, execFrameSent, sending, pending, ← counted]
    rfl
  have line : u.tally = s.tally.sentFrame p := by simp [← counted]
  have dose : u.dose = s.dose := by simp [← counted]
  have peers : u.peers = s.peers := by simp [← counted]
  have clock : u.clock = s.clock := by simp [← counted]
  have fault : u.isTrue .linkFault = false := by simp [← counted, setLevel_isTrue]
  generalize reported : reportSent p u = v at runs
  have tally : v.tally = s.tally.sentFrame p := by simp [← reported, line]
  have released : v.dose.released = s.dose.released := by rw [← reported, reportSent_released, dose]
  have same : v.cfg = s.cfg ∧ v.pulse = s.pulse ∧ v.sensor = s.sensor ∧ v.conv = s.conv ∧ v.filter = s.filter ∧
      v.port = s.port ∧ v.peers.entries = s.peers.entries := by
    simp [← reported, ← counted]
  have faultClear : v.isTrue .linkFault = false := by rw [← reported, reportSent_linkFault, fault]
  obtain ⟨sent, consecutive, noneOwed, attempt, own, idle⟩ := buildOwed_frameCounts v
  obtain ⟨cfg, pulse, sensor, conv, filter, port, entries⟩ := same
  refine ⟨_, runs, ?_⟩
  simp only [startIfChanged_frame, startIfChanged_reads, buildOwed_frame, buildOwed_reads]
  refine ⟨sent.trans (by rw [tally]; rfl), consecutive.trans (by rw [tally]; rfl), noneOwed,
    attempt (by rw [tally]; rfl), faultClear, own.trans (by rw [tally]; rfl), idle.trans (by rw [tally]; rfl), cfg, pulse,
    sensor, conv, filter, port, entries, ?none, ?tally, ?leave, ?shared, ?other⟩
  case none =>
    intro none_
    rw [buildOwed_none (by rw [tally]; exact none_), tally]
    exact ⟨rfl, rfl, rfl⟩
  case tally =>
    intro owed
    rw [buildOwed, tally, show (s.tally.sentFrame p).owed = .tally from owed, build_tally]
    exact ⟨rfl, rfl, _, rfl, rfl⟩
  case leave =>
    intro owed
    rw [buildOwed, tally, show (s.tally.sentFrame p).owed = .leave from owed, build, makePending_eq]
    exact ⟨rfl, rfl, _, rfl, by simp [State.leaveNow, released]⟩
  case shared =>
    intro f frame shared
    rw [← reported]
    refine ⟨fun mode => ?_, fun mode built live => ?_, fun mode built none_ => ?_, fun mode => ?_⟩
    · rw [reportSent_of_shared frame shared (peers ▸ mode), ← peers]
      exact ⟨dose, rfl⟩
    · rw [reportSent_of_switch frame shared (peers ▸ mode) built, ← dose, ← peers, ← clock]
      exact switchToShared_of_live (peers ▸ live)
    · rw [reportSent_of_switch frame shared (peers ▸ mode) built, ← dose, ← peers, ← clock]
      obtain ⟨debt, table, alone⟩ := switchToShared_of_none (debt := f.debt) (s := u) (peers ▸ none_)
      exact ⟨alone, debt, table⟩
    · rw [reportSent_of_other frame shared (peers ▸ mode)]
      exact ⟨dose, peers⟩
  case other =>
    intro notShared
    rw [← reported, reportSent_of_not_shared notShared]
    exact ⟨dose, peers⟩

end Sys2Proof.Machine
end

section
/-! What the open interval collects (section 9.3): its figures move as the counters of the same names, its flags are set with their
conditions and the mode, and none is cleared; through every elementary change. -/

namespace Sys2Proof.Machine

/-! ## The figures and the flags -/

/-- The figures of the interval that follow counters. -/
def CurrentInterval.figures (i : CurrentInterval) :=
  (i.charged, i.adopted, i.released, i.surrendered, i.waived, i.undosed, i.delivered, i.strokes, i.missed)

/-- The counters that the interval's figures follow. -/
def State.figures (s : State) :=
  (s.dose.charged, s.dose.adopted, s.dose.released, s.dose.surrendered, s.dose.waived, s.dose.undosed, s.dose.delivered,
    s.pump.confirmed, s.pump.missed)

/-- What the interval takes at its opening. -/
def CurrentInterval.opening (i : CurrentInterval) := (i.openTime, i.startActual, i.startBase, i.startHeader)

/-- The interval with a flag set where `v` holds. -/
def CurrentInterval.withFlag (i : CurrentInterval) (v : Bool) (f : Flag) : CurrentInterval :=
  { i with flags := i.flags ||| if v then f.bit else 0 }

@[simp] theorem withFlag_hasFlag (i : CurrentInterval) (v : Bool) (f x : Flag) :
    (i.withFlag v f).hasFlag x = (i.hasFlag x || (decide (x = f) && v)) := by
  cases v <;> simp [CurrentInterval.withFlag, CurrentInterval.hasFlag]

@[simp] theorem withFlag_figures (i : CurrentInterval) (v : Bool) (f : Flag) :
    (i.withFlag v f).opening = i.opening ∧ (i.withFlag v f).figures = i.figures := ⟨rfl, rfl⟩

/-- Each condition has one flag. -/
theorem Flag.eq_of_condition {f x : Flag} {c : Cond} (hf : f.condition = some c) (hx : x.condition = some c) : x = f := by
  cases f <;> cases hf <;> cases x <;> cases hx <;> rfl

/-- What the open interval `i` has become in `t`, from `s`. -/
structure Collected (s t : State) (i j : CurrentInterval) : Prop where
  opening : j.opening = i.opening
  figures : j.figures = i.figures + (t.figures - s.figures)
  flags : ∀ x, i.hasFlag x = true → j.hasFlag x = true
  latched : ∀ x k, x.condition = some k → i.hasFlag x = false → j.hasFlag x = true → t.isLatched k = true
  flagged : ∀ x k, x.condition = some k → s.isLatched k = false → t.isLatched k = true → j.hasFlag x = true
  risen : ∀ x k, x.condition = some k → s.isTrue k = false → t.isTrue k = true → j.hasFlag x = true
  released : t.dose.released ≠ s.dose.released → j.hasFlag .debtReleased = true
  solo : s.peers.mode.isSolo = false → t.peers.mode.isSolo = true → j.hasFlag .solo = true
  parked : s.peers.mode ≠ .parked → t.peers.mode = .parked → j.hasFlag .parked = true

/-- An open interval stays open and collects; no latch is cleared. -/
structure Collects (s t : State) : Prop where
  latches : ∀ k, s.isLatched k = true → t.isLatched k = true
  current : ∀ i, s.store.current = some i → ∃ j, t.store.current = some j ∧ Collected s t i j

theorem Collects.trans {s t u : State} (first : Collects s t) (second : Collects t u) : Collects s u := by
  refine ⟨fun k h => second.latches k (first.latches k h), fun i hi => ?_⟩
  obtain ⟨j, hj, one⟩ := first.current i hi
  obtain ⟨l, hl, two⟩ := second.current j hj
  refine ⟨l, hl, ?_⟩
  constructor
  case opening => exact two.opening.trans one.opening
  case figures => rw [two.figures, one.figures]; abel
  case flags => exact fun x h => two.flags x (one.flags x h)
  case latched =>
    intro x k condition clear set
    cases middle : j.hasFlag x with
    | false => exact two.latched x k condition middle set
    | true => exact second.latches k (one.latched x k condition clear middle)
  case flagged =>
    intro x k condition clear set
    cases middle : t.isLatched k with
    | false => exact two.flagged x k condition middle set
    | true => exact two.flags x (one.flagged x k condition clear middle)
  case risen =>
    intro x k condition clear set
    cases middle : t.isTrue k with
    | false => exact two.risen x k condition middle set
    | true => exact two.flags x (one.risen x k condition clear middle)
  case released =>
    intro moved
    by_cases same : t.dose.released = s.dose.released
    · exact two.released (same ▸ moved)
    · exact two.flags _ (one.released same)
  case solo =>
    intro was now
    cases middle : t.peers.mode.isSolo with
    | false => exact two.solo middle now
    | true => exact two.flags _ (one.solo was middle)
  case parked =>
    intro was now
    by_cases middle : t.peers.mode = .parked
    · exact two.flags _ (one.parked was middle)
    · exact two.parked middle now

theorem Collects.after {s t u : State} (second : Collects t u) (first : Collects s t) : Collects s u := first.trans second

/-- Nothing that the interval follows moves. -/
theorem collects_of_same {s t : State} (current : t.store.current = s.store.current) (figures : t.figures = s.figures)
    (mode : t.peers.mode = s.peers.mode) (alarm : t.alarm = s.alarm) : Collects s t := by
  have isTrue (k : Cond) : t.isTrue k = s.isTrue k := by rw [State.isTrue, alarm, State.isTrue]
  have isLatched (k : Cond) : t.isLatched k = s.isLatched k := by rw [State.isLatched, alarm, State.isLatched]
  have released : t.dose.released = s.dose.released := congrArg (fun x => x.2.2.1) figures
  refine ⟨fun k h => isLatched k ▸ h, fun i hi => ⟨i, current.trans hi, ?_⟩⟩
  constructor <;> simp_all

theorem Collects.refl (s : State) : Collects s s := collects_of_same rfl rfl rfl rfl

/-- The interval's figures follow counters that move, and nothing else does. -/
theorem collects_of_figures {s t : State} {g : CurrentInterval → CurrentInterval}
    (current : t.store.current = s.store.current.map g)
    (opening : ∀ i, (g i).opening = i.opening) (figures : ∀ i, (g i).figures = i.figures + (t.figures - s.figures))
    (flags : ∀ i, (g i).flags = i.flags) (released : t.dose.released = s.dose.released)
    (mode : t.peers.mode = s.peers.mode) (alarm : t.alarm = s.alarm) : Collects s t := by
  have isTrue (k : Cond) : t.isTrue k = s.isTrue k := by rw [State.isTrue, alarm, State.isTrue]
  have isLatched (k : Cond) : t.isLatched k = s.isLatched k := by rw [State.isLatched, alarm, State.isLatched]
  have hasFlag (i : CurrentInterval) (x : Flag) : (g i).hasFlag x = i.hasFlag x := by simp [CurrentInterval.hasFlag, flags]
  refine ⟨fun k h => isLatched k ▸ h, fun i hi => ⟨g i, by rw [current, hi]; rfl, ?_⟩⟩
  constructor <;> simp_all

theorem setFlagIf_current (v : Bool) (f : Flag) (s : State) : (setFlagIf v f s).store.current =
    s.store.current.map fun i => i.withFlag v f := by
  cases v with
  | false => cases current : s.store.current <;> simp [setFlagIf, current, CurrentInterval.withFlag]
  | true => rfl

section
variable {c : Cond} {f : Flag} {s : State}

/-- A condition with no flag of its own. -/
theorem collects_setLevel (v : Bool) (none_ : ∀ x : Flag, x.condition ≠ some c) : Collects s (setLevel c v s) := by
  have figures : (setLevel c v s).figures = s.figures := by simp [State.figures]
  have other {x : Flag} {k : Cond} (condition : x.condition = some k) : k ≠ c := fun same => none_ x (same ▸ condition)
  refine ⟨fun k h => by simp [setLevel_isLatched, h], fun i hi => ⟨i, by simpa using hi, ?_⟩⟩
  constructor
  case flagged =>
    intro x k condition clear set
    simp [setLevel_isLatched, clear, other condition] at set
  case risen =>
    intro x k condition clear set
    simp [setLevel_isTrue, clear, other condition] at set
  all_goals simp_all

/-- Where `r`, the condition's latch and its flag are set together (R163, R190); the figures may follow their counters beside. -/
theorem collects_of_flag {t : State} {g : CurrentInterval → CurrentInterval} (r : Bool) (flag : f.condition = some c)
    (current : t.store.current = (setFlagIf r f s).store.current.map g) (opening : ∀ i, (g i).opening = i.opening)
    (figures : ∀ i, (g i).figures = i.figures + (t.figures - s.figures)) (flags : ∀ i, (g i).flags = i.flags)
    (released : t.dose.released ≠ s.dose.released → f = .debtReleased ∧ r = true) (mode : t.peers.mode = s.peers.mode)
    (isLatched : ∀ k, t.isLatched k = (s.isLatched k || (decide (k = c) && r)))
    (risen : ∀ k, s.isTrue k = false → t.isTrue k = true → k = c ∧ r = true) : Collects s t := by
  refine ⟨fun k h => by simp [isLatched, h], fun i hi => ⟨g (i.withFlag r f), ?_, ?_⟩⟩
  · rw [current, setFlagIf_current, hi]; rfl
  have hasFlag (x : Flag) : (g (i.withFlag r f)).hasFlag x = (i.hasFlag x || (decide (x = f) && r)) := by
    rw [← withFlag_hasFlag, CurrentInterval.hasFlag, flags, CurrentInterval.hasFlag]
  constructor
  case opening => exact opening _
  case figures => exact figures _
  case flags => intro x h; simp [hasFlag, h]
  case latched =>
    intro x k condition clear set
    obtain ⟨rfl, rfl⟩ : x = f ∧ r = true := by simpa [hasFlag, clear] using set
    obtain rfl : k = c := Option.some.inj (condition.symm.trans flag)
    simp [isLatched]
  case flagged =>
    intro x k condition clear set
    obtain ⟨rfl, rfl⟩ : k = c ∧ r = true := by simpa [isLatched, clear] using set
    simp [hasFlag, Flag.eq_of_condition flag condition]
  case risen =>
    intro x k condition clear set
    obtain ⟨rfl, rfl⟩ := risen k clear set
    simp [hasFlag, Flag.eq_of_condition flag condition]
  case released =>
    intro moved
    obtain ⟨rfl, rfl⟩ := released moved
    simp [hasFlag]
  all_goals simp_all

theorem collects_raise (flag : f.condition = some c) : Collects s (raise c (setFlag f s)) :=
  collects_of_flag (g := id) true flag (by simp [setFlagIf]) (fun _ => rfl) (by simp [State.figures]) (fun _ => rfl) (by simp)
    (by simp) (fun k => by simp [raise_isLatched]) (fun k clear set => by simp [raise_isTrue, clear] at set)

theorem collects_setLevelFlag (v : Bool) (flag : f.condition = some c) : Collects s (setLevelFlag c f v s) :=
  collects_of_flag (g := id) (v && !s.isTrue c) flag (by simp [setLevelFlag]) (fun _ => rfl) (by simp [State.figures])
    (fun _ => rfl) (by simp) (by simp) (fun k => by rw [setLevelFlag_isLatched, Bool.and_assoc])
    (fun k clear set => by
      rw [setLevelFlag_isTrue] at set
      split at set
      · next same => subst same; exact ⟨rfl, by simp [set, clear]⟩
      · simp [clear] at set)

/-- Released odorant is counted with DEBT RELEASED and its flag (R107). -/
theorem collects_released (x : Nat) (s : State) :
    Collects s (addReleased x (raise .debtReleased (setFlag .debtReleased s))) :=
  collects_of_flag (c := .debtReleased) (f := .debtReleased) true rfl
    (g := fun i => { i with released := i.released + BitVec.ofNat 64 x }) (by simp [addReleased, setFlagIf, onInterval])
    (fun _ => rfl) (fun i => by simp [addReleased_dose, CurrentInterval.figures, State.figures]) (fun _ => rfl)
    (fun _ => ⟨rfl, rfl⟩) (by simp) (fun k => by simp [raise_isLatched])
    (fun k clear set => by simp [raise_isTrue, clear] at set)

theorem collects_reportPump : Collects s (reportPump s) :=
  (collects_setLevelFlag _ rfl).trans (collects_setLevelFlag _ rfl)

end

/-! ## The elementary changes -/

/-- The interval after a flag that follows no condition and no mode. -/
theorem collects_setFlag {f : Flag} (plain : f.condition = none ∧ f ≠ .solo ∧ f ≠ .parked) (s : State) :
    Collects s (setFlag f s) := by
  have figures : (setFlag f s).figures = s.figures := by simp [State.figures]
  refine ⟨fun k h => by simpa using h, fun i hi => ⟨i.withFlag true f, ?_, ?_⟩⟩
  · rw [show setFlag f s = setFlagIf true f s from rfl, setFlagIf_current, hi]; rfl
  constructor
  case latched =>
    intro x k condition clear set
    obtain rfl : x = f := by simpa [clear] using set
    simp [plain.1] at condition
  all_goals simp_all [withFlag_hasFlag]

/-- A mode sets its flag (R91), and reports ALONE and UNHEARD, which have none. -/
theorem collects_setMode (m : Mode) (s : State) : Collects s (setMode m s) := by
  have figures : (setMode m s).figures = s.figures := by simp [State.figures]
  have other {x : Flag} {k : Cond} (condition : x.condition = some k) : k ≠ .alone ∧ k ≠ .unheard := by
    cases x <;> cases condition <;> decide
  refine ⟨fun k h => by simp [setMode, setLevel_isLatched, h], fun i hi =>
    ⟨(i.withFlag m.isSolo .solo).withFlag (m == .parked) .parked, by simp [setMode, setFlagIf_current, hi], ?_⟩⟩
  constructor
  case latched =>
    intro x k condition clear set
    obtain rfl | rfl : x = .solo ∨ x = .parked := by
      simp only [withFlag_hasFlag, clear, Bool.false_or, Bool.or_eq_true, Bool.and_eq_true, decide_eq_true_eq] at set
      exact set.imp (·.1) (·.1)
    · cases condition
    · cases condition
  case flagged =>
    intro x k condition clear set
    simp [setMode, setLevel_isLatched, clear, other condition] at set
  case risen =>
    intro x k condition clear set
    simp [setMode_isTrue, clear, other condition] at set
  case solo => simp +contextual [setMode_peers]
  case parked => simp +contextual [setMode_peers]
  all_goals simp_all

theorem collects_setDebt (x : Nat) (s : State) : Collects s (setDebt x s) := by
  unfold setDebt
  split
  · exact Collects.refl s
  · exact Collects.after collects_reportPump (collects_of_same (by simp) (by simp [State.figures]) (by simp) (by simp))

theorem Change.collects {b : Scope} {s t : State} (h : Change b s t) : Collects s t := by
  cases h
  case quiet same =>
    exact collects_of_same same.current (by simp [State.figures, same.dose, same.pump])
      (by rw [same.peers]) same.alarm
  case throttle =>
    exact Collects.after (collects_setLevelFlag _ rfl) (collects_of_same (by simp) (by simp [State.figures]) (by simp)
        (by simp))
  case dwell =>
    unfold testDwell
    have noFlag : ∀ x : Flag, x.condition ≠ some .concLow := by intro x; cases x <;> nofun
    split
    · split
      · exact collects_of_same rfl rfl rfl rfl
      · exact Collects.refl s
    · exact Collects.after (collects_setLevel _ noFlag) (collects_of_same rfl rfl rfl rfl)
  case dwellEnds =>
    have noFlag : ∀ x : Flag, x.condition ≠ some .concLow := by intro x; cases x <;> nofun
    exact Collects.after (collects_setLevel _ noFlag) (collects_of_same rfl rfl rfl rfl)
  case book x booked =>
    exact collects_of_figures rfl (fun _ => rfl)
      (fun i => by simp [CurrentInterval.figures, State.figures, CurrentInterval.following, Machine.book, booked.released])
      (fun _ => rfl) (by simp [booked.released]) rfl rfl
  case debt x _ => exact collects_setDebt x s
  case released x => exact collects_released x s
  case condition c _ _ => exact Collects.after collects_reportPump (collects_of_same rfl rfl rfl rfl)
  case begin => exact collects_of_same rfl rfl rfl rfl
  case pump x kept => exact collects_of_same rfl (by simp [State.figures, kept.confirmed, kept.missed]) rfl rfl
  case confirmed =>
    exact collects_of_figures rfl (fun _ => rfl) (fun i => by simp [CurrentInterval.figures, State.figures])
        (fun _ => rfl) rfl rfl rfl
  case missed =>
    exact collects_of_figures rfl (fun _ => rfl) (fun i => by simp [CurrentInterval.figures, State.figures])
        (fun _ => rfl) rfl rfl rfl
  case mode _ m _ => exact collects_setMode m s
  case peers x mode _ => exact collects_of_same rfl rfl mode rfl
  case noteLive =>
    exact collects_of_figures rfl (fun _ => rfl) (fun i => by simp [CurrentInterval.figures, State.figures])
      (fun _ => rfl) rfl rfl rfl
  case raised c f flag _ => exact collects_raise flag
  case abandoned r =>
    have noFlag : ∀ x : Flag, x.condition ≠ some .linkFault := by intro x; cases x <;> nofun
    exact Collects.after (collects_setLevel _ noFlag) (collects_of_same rfl rfl rfl rfl)
  case sent =>
    have noFlag : ∀ x : Flag, x.condition ≠ some .linkFault := by intro x; cases x <;> nofun
    exact Collects.after (collects_setLevel _ noFlag) (collects_of_same rfl rfl rfl rfl)
  case silenced =>
    have noFlag : ∀ x : Flag, x.condition ≠ some .duplicateNumber := by intro x; cases x <;> nofun
    exact Collects.after (collects_setLevel _ noFlag) (collects_of_same rfl rfl rfl rfl)
  case given q v _ => exact collects_setLevel _ (by intro x; cases q <;> cases x <;> nofun)
  case givenFlag f _ flag => exact collects_setFlag flag s
  case counted =>
    exact collects_of_figures rfl (fun _ => rfl) (fun i => by simp [CurrentInterval.figures, State.figures])
      (fun _ => rfl) rfl rfl rfl
  all_goals exact collects_of_same rfl rfl rfl rfl

/-! ## What of the interval a chain cannot move -/

/-- What of the interval the elementary changes of a scope cannot move. -/
structure Unmoved (scope : Scope) {α : Type} (p : CurrentInterval → α) : Prop where
  following : ∀ i d e, p (i.following d e) = p i
  released : ∀ i x, p { i with released := x } = p i
  strokes : ∀ i x, p { i with strokes := x } = p i
  missed : ∀ i x, p { i with missed := x } = p i
  flag : ∀ i v f, f.condition ≠ none → p (i.withFlag v f) = p i
  mode : scope = .table → ∀ i v f, f = .solo ∨ f = .parked → p (i.withFlag v f) = p i
  leastLive : scope = .table → ∀ i x, p { i with leastLive := x } = p i
  given : scope = .cycle → ∀ i v f, f.condition = none ∧ f ≠ .solo ∧ f ≠ .parked → p (i.withFlag v f) = p i
  cycles : scope = .cycle → ∀ i c x y, p { i with cycles := c, sumPf := x, sumTf := y } = p i

section
variable {scope : Scope} {α : Type} {p : CurrentInterval → α} (h : Unmoved scope p)
include h

theorem Unmoved.setFlagIf {f : Flag} (flag : f.condition ≠ none) (v : Bool) (s : State) :
    (setFlagIf v f s).store.current.map p = s.store.current.map p := by
  simp [setFlagIf_current, Function.comp_def, h.flag _ _ _ flag]

theorem Unmoved.setLevelFlag {f : Flag} (flag : f.condition ≠ none) (c : Cond) (v : Bool) (s : State) :
    (setLevelFlag c f v s).store.current.map p = s.store.current.map p := by
  simp [Machine.setLevelFlag, h.setFlagIf flag]

theorem Unmoved.reportPump (s : State) : (reportPump s).store.current.map p = s.store.current.map p := by
  simp [Machine.reportPump, h.setLevelFlag (f := .pumpFault) nofun, h.setLevelFlag (f := .pumpStrained) nofun]

theorem Change.unmoved {s t : State} (change : Change scope s t) : t.store.current.map p = s.store.current.map p := by
  have figure {g : CurrentInterval → CurrentInterval} (same : ∀ i, p (g i) = p i) (u : State) :
      (onInterval g u).store.current.map p = u.store.current.map p := by
    simp [onInterval, Function.comp_def, same]
  cases change
  case quiet same => rw [same.current]
  case throttle => exact h.setLevelFlag (f := .throttled) nofun _ _ _
  case dwell => simp
  case dwellEnds => simp
  case book x _ => exact figure (fun i => h.following i _ _) _
  case debt x _ =>
    unfold setDebt
    split
    · rfl
    · rw [h.reportPump]; simp
  case released x =>
    have flagged := h.setFlagIf (f := .debtReleased) nofun true s
    exact (figure (fun i => h.released i _) _).trans flagged
  case condition c _ _ => exact h.reportPump _
  case confirmed => exact figure (fun i => h.strokes i _) _
  case missed => exact figure (fun i => h.missed i _) _
  case mode table m _ =>
    simp [setMode, setFlagIf_current, Function.comp_def, h.mode table _ _ _ (.inl rfl), h.mode table _ _ _ (.inr rfl)]
  case noteLive table => exact figure (fun i => h.leastLive table i _) _
  case raised c f flag _ =>
    have flagged := h.setFlagIf (f := f) (by simp [flag]) true s
    exact flagged
  case abandoned => simp
  case sent => simp
  case silenced => simp
  case given => simp
  case givenFlag f cycle flag =>
    show (setFlagIf true f s).store.current.map p = _
    simp [setFlagIf_current, Function.comp_def, h.given cycle _ _ _ flag]
  case counted cycle => exact figure (fun i => h.cycles cycle i _ _ _) _
  all_goals rfl

theorem Changes.unmoved {s t : State} (chain : Changes scope s t) : t.store.current.map p = s.store.current.map p := by
  induction chain with
  | refl => rfl
  | tail _ last ih => exact (Change.unmoved h last).trans ih

end

end Sys2Proof.Machine
end

section
/-! The interval (sections 9.2 to 9.5): its close into the ring, and what it collects under every command. -/

namespace Sys2Proof.Machine

/-! ## The close -/

/-- The interval that opens at this instant (R162). -/
def State.opened (s : State) : CurrentInterval :=
  { openTime := s.clock, startActual := s.conv.actual / 1000000, startBase := s.conv.base / 1000000,
    startHeader := s.store.header / 1000000, cycles := 0, sumPf := 0, sumTf := 0, delivered := 0, charged := 0, adopted := 0,
    released := 0, surrendered := 0, waived := 0, undosed := 0, strokes := 0, missed := 0, leastLive := s.peers.liveCount,
    flags := s.openingFlags }

theorem appendRecord_eq (ring : List IntervalRecord) (r : IntervalRecord) :
    appendRecord ring r = (if ring.length < 128 then ring else ring.tail) ++ [r] := by
  rw [appendRecord, ringCapacity]
  split <;> rfl

theorem closeInterval_eq {s : State} {i : CurrentInterval} (current : s.store.current = some i) (cause : CloseCause) :
    closeInterval cause s = s.withStore { s.store with
      current := some s.opened,
      ring := (if s.store.ring.length < 128 then s.store.ring else s.store.ring.tail) ++ [s.closingRecord cause i],
      nextSequence := s.store.nextSequence + 1 } := by
  simp only [closeInterval, current, ← appendRecord_eq]
  rfl

theorem averageOver_eq (sum : BitVec 64) (n : BitVec 32) : averageOver sum n = sum.toNat / n.toNat := by
  unfold averageOver
  split <;> simp_all

/-- The close of an interval, at its timer and at MARK (R164, R165). -/
theorem intervals_close : ∀ (s : State) (i : CurrentInterval) (record : CloseCause → IntervalRecord)
    (opened : CurrentInterval),
    s.store.current = some i → (∀ cause, record cause = s.closingRecord cause i) → opened = s.opened →
    (∀ t0, s.store.timerStart = some t0 → s.cfg.intervalLength * 60000 ≤ (s.clock - t0).toNat →
      exec .intervalTimerExpiry s = .next (s.withStore
        { s.store with
          timerStart := some (t0 + BitVec.ofNat 64 (s.cfg.intervalLength * 60000)), current := some opened,
          ring := (if s.store.ring.length < 128 then s.store.ring else s.store.ring.tail) ++ [record .timer],
          nextSequence := s.store.nextSequence + 1 })) ∧
    (s.peers.mode ≠ .config →
      exec .mark s = .next ((s.withStore
        { s.store with
          current := some opened,
          ring := (if s.store.ring.length < 128 then s.store.ring else s.store.ring.tail) ++ [record .mark],
          nextSequence := s.store.nextSequence + 1 }).withPort (s.port.recorded s.clock 7 .done 0))) := by
  rintro s i record opened current records rfl
  refine ⟨fun t0 start due => ?_, fun started => ?_⟩
  · have reached : s.intervalDue = true := (hasRun_iff _ _ _).2 ⟨t0, start, due⟩
    simp only [exec, execIntervalTimerExpiry, reached, if_true, records]
    rw [closeInterval_eq (i := i) (by simpa using current), start]
    rfl
  · simp only [exec, execMark, if_pos started, done, recordCommand_eq, closeInterval_eq current, records]
    rfl

/-! ## Under every command but a close -/

theorem Changes.collects {b : Scope} {s t : State} (chain : Changes b s t) : Collects s t := by
  induction chain with
  | refl => exact Collects.refl s
  | tail _ last ih => exact ih.trans last.collects

theorem exec_collected {c : Instr} {s t : State} {i : CurrentInterval} (notReset : ∀ n a x y z, c ≠ .coldReset n a x y z)
    (notStart : c ≠ .start) (notMark : c ≠ .mark) (notTimer : c ≠ .intervalTimerExpiry) (h : exec c s = .next t)
    (hi : s.store.current = some i) : ∃ j, t.store.current = some j ∧ Collected s t i j := by
  cases anew : setsAnew c with
  | false => exact (exec_changes anew h).collects.current i hi
  | true =>
    cases c
    case coldReset => exact absurd rfl (notReset _ _ _ _ _)
    case start => exact absurd rfl notStart
    case mark => exact absurd rfl notMark
    case intervalTimerExpiry => exact absurd rfl notTimer
    case clearLatches =>
      cases h
      rw [done, recordCommand_eq]
      refine ⟨i, hi, ?_⟩
      constructor
      case flagged =>
        intro x k _ clear set
        have cleared : (clearLatches s).isLatched k = true := set
        simp [clearLatches_isLatched, clear] at cleared
      case risen =>
        intro x k _ clear set
        have same : s.isTrue k = true := set
        simp [clear] at same
      all_goals simp_all [clearLatches, State.figures]
    all_goals cases anew

/-- What of the interval no chain of the command's scope moves stands under the command, if no close. -/
theorem exec_unmoved {α : Type} {p : CurrentInterval → α} {c : Instr} {s t : State} (unmoved : Unmoved (scopeOf c) p)
    (notReset : ∀ n a x y z, c ≠ .coldReset n a x y z) (notStart : c ≠ .start) (notMark : c ≠ .mark)
    (notTimer : c ≠ .intervalTimerExpiry) (h : exec c s = .next t) :
    t.store.current.map p = s.store.current.map p := by
  cases anew : setsAnew c with
  | false => exact Changes.unmoved unmoved (exec_changes anew h)
  | true =>
    cases c
    case coldReset => exact absurd rfl (notReset _ _ _ _ _)
    case start => exact absurd rfl notStart
    case mark => exact absurd rfl notMark
    case intervalTimerExpiry => exact absurd rfl notTimer
    case clearLatches => cases h; rw [done, recordCommand_eq]; rfl
    all_goals cases anew

theorem unmoved_cycles {scope : Scope} (plain : scope ≠ .cycle) : Unmoved scope CurrentInterval.cycles where
  following _ _ _ := rfl
  released _ _ := rfl
  strokes _ _ := rfl
  missed _ _ := rfl
  flag _ _ _ _ := rfl
  mode _ _ _ _ _ := rfl
  leastLive _ _ _ := rfl
  given _ _ _ _ _ := rfl
  cycles cycle := absurd cycle plain

/-- A flag of the values given is set at a cycle end alone (R30). -/
theorem unmoved_givenFlag {scope : Scope} (plain : scope ≠ .cycle) {x : Flag} (given : x.condition = none)
    (notSolo : x ≠ .solo) (notParked : x ≠ .parked) : Unmoved scope (·.hasFlag x) where
  following _ _ _ := rfl
  released _ _ := rfl
  strokes _ _ := rfl
  missed _ _ := rfl
  flag i v f condition := by
    have other : x ≠ f := fun same => condition (same ▸ given)
    simp [other]
  mode _ i v f := by rintro (rfl | rfl) <;> simp [notSolo, notParked]
  leastLive _ _ _ := rfl
  given cycle := absurd cycle plain
  cycles cycle := absurd cycle plain

/-- The flags of the mode and the least LIVE count move only with the Peer Table. -/
def CurrentInterval.tableMarks (i : CurrentInterval) := (i.hasFlag .solo, i.hasFlag .parked, i.leastLive)

theorem unmoved_tableMarks {scope : Scope} (plain : scope ≠ .table) : Unmoved scope CurrentInterval.tableMarks where
  following _ _ _ := rfl
  released _ _ := rfl
  strokes _ _ := rfl
  missed _ _ := rfl
  flag i v f condition := by
    have apart : Flag.solo ≠ f ∧ Flag.parked ≠ f := by constructor <;> rintro rfl <;> exact condition rfl
    simp only [CurrentInterval.tableMarks, withFlag_hasFlag, apart, decide_false, Bool.false_and, Bool.or_false]
    rfl
  mode table := absurd table plain
  leastLive table := absurd table plain
  given _ i v f := by
    rintro ⟨-, notSolo, notParked⟩
    simp only [CurrentInterval.tableMarks, withFlag_hasFlag, notSolo.symm, notParked.symm, decide_false, Bool.false_and,
        Bool.or_false]
    rfl
  cycles _ _ _ _ _ := rfl

/-! ## The cycles -/

theorem eq_of_scope_cycle {c : Instr} (h : scopeOf c = .cycle) : c = .cycleTimerExpiry := by
  cases c <;> cases h
  rfl

/-- The cycle number moves at the cycle timer's expiry alone, with the interval's cycles (R7, R163). -/
theorem exec_cycles {c : Instr} {s t : State} {i j : CurrentInterval} (notReset : ∀ n a x y z, c ≠ .coldReset n a x y z)
    (notStart : c ≠ .start) (notMark : c ≠ .mark) (notTimer : c ≠ .intervalTimerExpiry) (h : exec c s = .next t)
    (hi : s.store.current = some i) (hj : t.store.current = some j) :
    j.cycles = i.cycles + (t.pulse.nextNumber - s.pulse.nextNumber) := by
  by_cases cycle : c = .cycleTimerExpiry
  · subst cycle
    simp only [exec, execCycleTimerExpiry] at h
    split at h <;> cases h
    · obtain ⟨k, hk, cycles, -⟩ := cycleEnd_current_cycleFigures s i hi
      obtain rfl : k = j := by simpa [hk] using hj
      have number : (cycleEnd s).pulse.nextNumber = s.pulse.nextNumber + 1 := by
        simp [cycleEnd_pulse, closeCycle_pulse]
      simp [cycles, number]
    · obtain rfl : i = j := by simpa [hi] using hj
      simp
  · have number : t.pulse.nextNumber = s.pulse.nextNumber := by
      by_cases moved : Part.pulse ∈ movedParts c
      · cases c
        case coldReset => exact absurd rfl (notReset _ _ _ _ _)
        case start => exact absurd rfl notStart
        case cycleTimerExpiry => exact absurd rfl cycle
        case pulseEdge change =>
          simp only [exec, execPulseEdge, countA, countB] at h
          (repeat' split at h) <;> cases h <;> rfl
        all_goals simp [movedParts] at moved
      · rw [show t.pulse = s.pulse from exec_same h .pulse moved]
    have plain : scopeOf c ≠ .cycle := fun scope => cycle (eq_of_scope_cycle scope)
    have same := exec_unmoved (unmoved_cycles plain) notReset notStart notMark notTimer h
    rw [hi, hj] at same
    simpa [number] using same

/-! ## The least LIVE count and the flags of the mode -/

/-- The entries, the mode, the least LIVE count and the flags of the mode stand. -/
structure Still (s t : State) : Prop where
  marks : t.store.current.map CurrentInterval.tableMarks = s.store.current.map CurrentInterval.tableMarks
  entries : t.peers.entries = s.peers.entries
  mode : t.peers.mode = s.peers.mode

theorem Changes.still {scope : Scope} (plain : scope ≠ .table) {s t : State} (chain : Changes scope s t) : Still s t := by
  have peers : t.peers.entries = s.peers.entries ∧ t.peers.mode = s.peers.mode := by
    induction chain with
    | refl => exact ⟨rfl, rfl⟩
    | tail _ last ih =>
      refine ⟨Eq.trans ?_ ih.1, Eq.trans ?_ ih.2⟩
      all_goals
        cases last
        case quiet same => rw [same.peers]
        case mode table _ _ => exact absurd table plain
        case entry table _ _ _ _ => exact absurd table plain
        case peers x mode entries => assumption
        all_goals simp
  exact ⟨Changes.unmoved (unmoved_tableMarks plain) chain, peers.1, peers.2⟩

/-- The least LIVE count takes a new LIVE count, and a flag of the mode is set for the mode that is left standing. -/
def Marked (s t : State) : Prop :=
  ∀ i j, s.store.current = some i → t.store.current = some j →
    j.leastLive = (if t.peers.liveCount = s.peers.liveCount then i.leastLive else min i.leastLive t.peers.liveCount) ∧
      (i.hasFlag .solo = false → j.hasFlag .solo = true → t.peers.mode.isSolo = true) ∧
      (i.hasFlag .parked = false → j.hasFlag .parked = true → t.peers.mode = .parked)

section
variable {s t u : State}

theorem Still.liveCount (h : Still s t) : t.peers.liveCount = s.peers.liveCount := by
  rw [PeerTable.liveCount, h.entries, PeerTable.liveCount]

/-- The interval before a change that leaves the marks, from the one after it. -/
theorem Still.before (h : Still s t) {j : CurrentInterval} (hj : t.store.current = some j) :
    ∃ i, s.store.current = some i ∧ j.leastLive = i.leastLive ∧ j.hasFlag .solo = i.hasFlag .solo ∧
      j.hasFlag .parked = i.hasFlag .parked := by
  have marks := h.marks
  rw [hj, Option.map_some, eq_comm, Option.map_eq_some_iff] at marks
  obtain ⟨i, hi, same⟩ := marks
  simp only [CurrentInterval.tableMarks, Prod.mk.injEq] at same
  exact ⟨i, hi, same.2.2.symm, same.1.symm, same.2.1.symm⟩

theorem Still.marked (h : Still s t) : Marked s t := by
  intro i j hi hj
  obtain ⟨k, hk, leastLive, solo, parked⟩ := h.before hj
  obtain rfl : k = i := by simpa [hk] using hi
  rw [if_pos h.liveCount]
  exact ⟨leastLive, by simp_all, by simp_all⟩

theorem Marked.thenStill (first : Marked s t) (second : Still t u) : Marked s u := by
  intro i j hi hj
  obtain ⟨k, hk, leastLive, solo, parked⟩ := second.before hj
  rw [second.liveCount, second.mode, leastLive, solo, parked]
  exact first i k hi hk

theorem Still.thenMarked (first : Still s t) (second : Marked t u) : Marked s u := by
  intro i j hi hj
  have current := first.marks
  rw [hi, Option.map_some, Option.map_eq_some_iff] at current
  obtain ⟨k, hk, same⟩ := current
  simp only [CurrentInterval.tableMarks, Prod.mk.injEq] at same
  have next := second k j hk hj
  rwa [first.liveCount, same.1, same.2.1, same.2.2] at next

theorem setMode_current (m : Mode) (s : State) : (setMode m s).store.current =
    s.store.current.map fun i => (i.withFlag m.isSolo .solo).withFlag (m == .parked) .parked := by
  simp [setMode, setFlagIf_current, Function.comp_def]

theorem setMode_marked (m : Mode) (s : State) : Marked s (setMode m s) := by
  intro i j hi hj
  rw [setMode_current, hi, Option.map_some, Option.some.injEq] at hj
  subst hj
  have live : (setMode m s).peers.liveCount = s.peers.liveCount := by simp [PeerTable.liveCount]
  rw [if_pos live, setMode_peers]
  exact ⟨rfl, by simp +contextual, by simp +contextual⟩

theorem leaveShared_after_setMode (c : SoloCause) (s : State) : Still (setMode (.solo c) s) (leaveShared c s) :=
  Changes.still (scope := .plain) nofun (surrender_changes (startIfChanged_changes _ .refl))

/-- A node left alone is in SOLO, whatever the flags of the mode before (R86). -/
theorem Marked.aloneIfNone (h : Marked s t) : Marked s (aloneIfNone t) := by
  unfold Machine.aloneIfNone
  split
  · next alone =>
    intro i j hi hj
    obtain ⟨k, hk, leastLive, solo, parked⟩ := (leaveShared_after_setMode .alone t).before hj
    rw [setMode_current, Option.map_eq_some_iff] at hk
    obtain ⟨l, hl, rfl⟩ := hk
    obtain ⟨least, -, parkedFirst⟩ := h i l hi hl
    have live : (leaveShared .alone t).peers.liveCount = t.peers.liveCount := by simp [PeerTable.liveCount]
    refine ⟨by rw [live, leastLive]; exact least, fun _ _ => by rw [leaveShared_peers]; rfl, fun clear set => ?_⟩
    have before : l.hasFlag .parked = true := by simpa [parked] using set
    exact absurd ((parkedFirst clear before).symm.trans alone.1) nofun
  · exact h

theorem setEntry_liveCount {b : PeerTable} {n : Nat} (inside : n - 1 < b.entries.length) (e : Entry) :
    (b.setEntry n e).liveCount =
      (b.liveCount - if (b.entry n).isLive then 1 else 0) + if e.isLive then 1 else 0 := by
  have here : b.entry n = b.entries[n - 1] := by simp [PeerTable.entry, inside]
  rw [PeerTable.liveCount, PeerTable.setEntry, List.countP_set inside, here, PeerTable.liveCount]

/-- An entry that is LIVE is among those counted. -/
theorem liveCount_pos {b : PeerTable} {n : Nat} (inside : n - 1 < b.entries.length) (live : (b.entry n).isLive = true) :
    0 < b.liveCount := by
  have here : b.entry n = b.entries[n - 1] := by simp [PeerTable.entry, inside]
  exact List.countP_pos_iff.2 ⟨_, List.getElem_mem inside, here ▸ live⟩

theorem setEntry_marked {n : Nat} {e : Entry} (inside : n - 1 < s.peers.entries.length)
    (same : e.isLive = (s.peers.entry n).isLive) : Marked s (setEntry n e s) := by
  have live : (setEntry n e s).peers.liveCount = s.peers.liveCount := by
    rw [setEntry, State.withPeers_peers, setEntry_liveCount inside, same]
    split
    · next was => have := liveCount_pos inside was; omega
    · rfl
  intro i j hi hj
  obtain rfl : i = j := by simpa [hi] using hj
  rw [if_pos live]
  exact ⟨rfl, by simp +contextual, by simp +contextual⟩

/-- An entry that begins or ceases to be LIVE is noted in the interval (R163). -/
theorem noteEntry_marked {n : Nat} {e : Entry} (inside : n - 1 < s.peers.entries.length)
    (other : e.isLive ≠ (s.peers.entry n).isLive) : Marked s (noteLiveCount (setEntry n e s)) := by
  have live : (setEntry n e s).peers.liveCount ≠ s.peers.liveCount := by
    rw [setEntry, State.withPeers_peers, setEntry_liveCount inside]
    have pos := liveCount_pos (b := s.peers) inside
    cases was : (s.peers.entry n).isLive <;> cases now : e.isLive <;> simp_all
    omega
  intro i j hi hj
  obtain rfl : { i with leastLive := min i.leastLive (setEntry n e s).peers.liveCount } = j := by
    simpa [noteLiveCount, onInterval, setEntry, hi] using hj
  rw [if_neg (by simpa using live)]
  exact ⟨by simp, by simp +contextual [CurrentInterval.hasFlag], by simp +contextual [CurrentInterval.hasFlag]⟩

end

/-! ### The commands of the Peer Table -/

section
variable {s : State}

theorem acceptTally_marked (f : TallyFrame) (last : LiveFields) (inside : f.node.toNat - 1 < s.peers.entries.length)
    (live : (s.peers.entry f.node.toNat).isLive = true) : Marked s (acceptTally f last s) := by
  have entered {e : Entry} (now : e.isLive = true) : Marked s (setEntry f.node.toNat e s) :=
    setEntry_marked inside (now.trans live.symm)
  have updated (v : Bool) : Marked s (updateEntry f last v s) :=
    (entered rfl).thenStill
      (Changes.still (scope := .plain) nofun (noteListing_changes _ .refl))
  unfold acceptTally
  dsimp only
  split
  · exact (updated true).thenStill (Changes.still (scope := .plain) nofun
      (handTallyAdoption_changes _ _ _ _ (raiseImplausible_changes .refl)))
  · exact (updated false).thenStill (Changes.still (scope := .plain) nofun
      (addDelivered_changes _ (addHeader_changes _ (handTallyAdoption_changes _ _ _ _ (handCharge_changes _ _ _ .refl)))))

theorem acceptLeave_marked (f : LeaveFrame) (last : LiveFields) (inside : f.node.toNat - 1 < s.peers.entries.length)
    (live : (s.peers.entry f.node.toNat).isLive = true) : Marked s (acceptLeave f last s) := by
  have noted {e : Entry} (left : e.isLive = false) : Marked s (noteLiveCount (setEntry f.node.toNat e s)) :=
    noteEntry_marked inside (by rw [live, left]; nofun)
  refine Marked.aloneIfNone ?_
  split
  · exact (noted rfl).thenStill (Changes.still (scope := .plain) nofun (raiseImplausible_changes .refl))
  · split
    · exact (noted rfl).thenStill (Changes.still (scope := .plain) nofun (handAdoption_changes _ _ _ .refl))
    · exact noted rfl

theorem takeFrame_marked (f : Frame) (inside : f.node.toNat - 1 < s.peers.entries.length) : Marked s (takeFrame f s) := by
  have still : Marked s s := (Changes.still (scope := .plain) nofun .refl).marked
  cases f with
  | tally f =>
    simp only [takeFrame, takeTally]
    split
    · next last status =>
      split
      · exact still
      · exact acceptTally_marked f last inside (by simp [Entry.isLive, status])
    · next notLive =>
      have before : (s.peers.entry f.node.toNat).isLive = false := by
        unfold Entry.isLive
        split
        · next g status => exact absurd status (notLive g)
        · rfl
      have noted {e : Entry} (live : e.isLive = true) : Marked s (noteLiveCount (setEntry f.node.toNat e s)) :=
        noteEntry_marked inside (by rw [before, live]; nofun)
      exact (noted rfl).thenStill (Changes.still (scope := .plain) nofun (noteListing_changes _ .refl))
  | leave f =>
    simp only [takeFrame, takeLeave]
    split
    · next last status =>
      split
      · exact still
      · exact acceptLeave_marked f last inside (by simp [Entry.isLive, status])
    · next notLive =>
      refine setEntry_marked inside (Eq.symm ?_)
      unfold Entry.isLive
      split
      · next g status => exact absurd status (notLive g)
      · rfl

theorem duplicate_marked : Marked s (duplicate s) := by
  have left : Marked s (if s.peers.mode = .shared then leaveShared .duplicate s else setMode (.solo .duplicate) s) := by
    split
    · exact (setMode_marked _ s).thenStill (leaveShared_after_setMode _ s)
    · exact setMode_marked _ s
  exact left.thenStill (Changes.still (scope := .plain) nofun
    (.tail (setSwitchPending_changes false .refl) (Change.silenced _)))

theorem withTally_still (x : TallyLine) (s : State) : Still s (s.withTally x) := ⟨rfl, rfl, rfl⟩

theorem goodFrame_marked (f : Frame) (inside : f.node.toNat - 1 < s.peers.entries.length) : Marked s (goodFrame f s) := by
  have counted := withTally_still { s.tally with goodReceived := s.tally.goodReceived + 1 } s
  unfold goodFrame
  dsimp only
  split
  · split
    · exact counted.thenMarked (withTally_still _ _).marked
    · exact counted.thenMarked ((withTally_still _ _).thenMarked duplicate_marked)
  · exact counted.thenMarked (takeFrame_marked f inside)

theorem expire_marked {n : Nat} {f : LiveFields} (inside : n - 1 < s.peers.entries.length)
    (live : (s.peers.entry n).status = .live f) : Marked s (expire n f s) := by
  have noted {e : Entry} (expired : e.isLive = false) : Marked s (noteLiveCount (setEntry n e s)) :=
    noteEntry_marked inside (by rw [expired, Entry.isLive, live]; nofun)
  have lost (u : State) : Changes .plain u (raise .peerLost (setFlag .peerLost u)) :=
    Relation.ReflTransGen.single (Change.raised _ .peerLost .peerLost rfl (by decide))
  refine Marked.aloneIfNone ?_
  split
  · exact (noted rfl).thenStill (Changes.still (scope := .plain) nofun (handAdoption_changes _ _ _ (lost _)))
  · exact (noted rfl).thenStill (Changes.still (scope := .plain) nofun (lost _))

theorem switchToShared_marked (d : BitVec 32) : Marked s (switchToShared d s) := by
  rw [switchToShared_eq]
  exact Marked.aloneIfNone ((setMode_marked .shared s).thenStill (Changes.still (scope := .plain) nofun
    (withPeers_changes _ (by simp [PeerTable.switched, setMode_peers]) (by simp [PeerTable.switched])
        (startIfChanged_changes _ .refl))))

theorem reportSent_marked (p : Pending) : Marked s (reportSent p s) := by
  have still : Marked s s := (Changes.still (scope := .plain) nofun .refl).marked
  unfold reportSent
  split
  · exact still
  · split
    · split
      · exact Still.marked ⟨rfl, rfl, rfl⟩
      · exact still
      · split
        · exact still
        · exact switchToShared_marked _
      · exact still
      · exact still
    · exact still

theorem frameIsSent_marked {p : Pending} (sending : s.tally.transmitter = .sending) : Marked s (frameIsSent p s) := by
  have sent : Changes .plain s (setLevel .linkFault false (s.withTally (s.tally.sentFrame p))) :=
    Relation.ReflTransGen.single (Change.sent _ (by simp [sending]) nofun rfl)
  exact ((Changes.still (scope := .plain) nofun sent).thenMarked (reportSent_marked p)).thenStill
      (Changes.still (scope := .plain) nofun
    (buildOwed_changes (by simp) .refl))

theorem park_marked : Marked s (park s) :=
  (setMode_marked .parked s).thenStill (Changes.still (scope := .plain) nofun
    (fallDue_changes _ (release_changes (setSwitchPending_changes _ .refl))))

theorem startIfChanged_still (u : State) : Still s (startIfChanged u s) :=
  Changes.still (scope := .plain) nofun (startIfChanged_changes _ .refl)

end

theorem exec_marked {c : Instr} {s t : State} (notReset : ∀ n a x y z, c ≠ .coldReset n a x y z)
    (notStart : c ≠ .start) (notMark : c ≠ .mark) (notTimer : c ≠ .intervalTimerExpiry) (length : s.peers.entries.length = 16)
    (h : exec c s = .next t) : Marked s t := by
  have still : Marked s s := (Changes.still (scope := .plain) nofun .refl).marked
  have recorded (code : Byte) (r : CommandResult) (i : Nat) (u : State) : Still u (recordCommand code r i u) :=
    Changes.still (scope := .plain) nofun (recordCommand_changes _ _ _ .refl)
  by_cases table : scopeOf c = .table
  · cases c
    case frameEnd bytes x y =>
      simp only [exec, execFrameEnd] at h
      split at h
      · split at h
        · cases h; exact (withTally_still _ s).marked
        · split at h <;> cases h
          · exact ((withTally_still _ s).thenMarked (withTally_still _ _).marked)
          · next f good =>
            have range := node_of_judge_good good
            exact ((withTally_still _ s).thenMarked (goodFrame_marked f (by simp [length]; omega))).thenStill
                (startIfChanged_still s)
      · cases h; exact still
    case frameSent =>
      simp only [exec, execFrameSent] at h
      split at h <;> cases h
      · next sending _ => exact (frameIsSent_marked sending).thenStill (startIfChanged_still s)
      · exact still
    case peerExpiry n =>
      simp only [exec, execPeerExpiry] at h
      split at h
      · next live =>
        split at h <;> cases h
        · have inside : n - 1 < s.peers.entries.length := by
            by_contra outside
            simp [PeerTable.entry, List.getElem?_eq_none (not_lt.1 outside), Entry.absent] at live
          exact (expire_marked inside live).thenStill (startIfChanged_still s)
        · exact still
      · cases h; exact still
    case unheard =>
      simp only [exec, execUnheard] at h
      split at h <;> cases h
      · exact ((setMode_marked _ s).thenStill (leaveShared_after_setMode _ s)).thenStill (startIfChanged_still s)
      · exact still
    case leave =>
      simp only [exec, execLeave] at h
      split at h <;> cases h
      · exact (park_marked.thenStill (startIfChanged_still s)).thenStill (recorded _ _ _ _)
      · exact (recorded _ _ _ _).marked
    case join =>
      simp only [exec, execJoin] at h
      split at h <;> cases h
      · exact ((setMode_marked _ s).thenStill (startIfChanged_still s)).thenStill (recorded _ _ _ _)
      · exact (recorded _ _ _ _).marked
    all_goals cases table
  · cases anew : setsAnew c with
    | false => exact (Changes.still table (exec_changes anew h)).marked
    | true =>
      cases c
      case coldReset => exact absurd rfl (notReset _ _ _ _ _)
      case start => exact absurd rfl notStart
      case mark => exact absurd rfl notMark
      case intervalTimerExpiry => exact absurd rfl notTimer
      case clearLatches =>
        cases h
        have cleared : Still s (clearLatches s) := ⟨rfl, rfl, rfl⟩
        exact cleared.thenMarked (recorded _ _ _ _).marked
      all_goals cases anew

/-- Settles O56. -/
theorem intervalsCloseIntoTheRing : Obligations.IntervalsCloseIntoTheRing := by
  refine ⟨fun s i record opened current records opens => ?_, fun c s t i notReset notStart notMark notTimer length h hi => ?_⟩
  · refine intervals_close s i record opened current (fun cause => ?_) opens
    rw [records cause, State.closingRecord, averageOver_eq, averageOver_eq]
    rfl
  · obtain ⟨j, hj, collected⟩ := exec_collected notReset notStart notMark notTimer h hi
    obtain ⟨leastLive, solo, parked⟩ := exec_marked notReset notStart notMark notTimer length h i j hi hj
    have cycles := exec_cycles notReset notStart notMark notTimer h hi hj
    obtain ⟨opening, figures, flags, latched, flagged, risen, released, soloMode, parkedMode⟩ := collected
    simp only [CurrentInterval.opening, Prod.mk.injEq] at opening
    simp only [CurrentInterval.figures, State.figures, Prod.mk_sub_mk, Prod.mk_add_mk, Prod.mk.injEq] at figures
    obtain ⟨openTime, startActual, startBase, startHeader⟩ := opening
    obtain ⟨charged, adopted, releasedFigure, surrendered, waived, undosed, delivered, strokes, missed⟩ := figures
    refine ⟨j, hj, openTime, startActual, startBase, startHeader, cycles, charged, adopted, releasedFigure, surrendered,
        waived,
      undosed, delivered, strokes, missed, leastLive, flags,
          fun x k condition => ⟨latched x k condition, flagged x k condition,
        risen x k condition⟩, ?given, released, soloMode, parkedMode, solo, parked⟩
    case given =>
      intro x condition notSolo notParked notCycle
      have plain : scopeOf c ≠ .cycle := fun scope => notCycle (eq_of_scope_cycle scope)
      have same := exec_unmoved (unmoved_givenFlag plain condition notSolo notParked) notReset notStart notMark notTimer h
      simpa [hi, hj] using same

end Sys2Proof.Machine
end

section
/-! The Peer Table (chapter 5): the entries, the counts over them, and a good frame of another node. -/

namespace Sys2Proof.Machine

/-! ## Sums and counts over the entries -/

section
variable {b : PeerTable} {n : Nat}

theorem setEntry_sharedCapacity (inside : n - 1 < b.entries.length) (e : Entry) :
    (b.setEntry n e).sharedCapacity = (b.setEntry n Entry.absent).sharedCapacity + e.sharedCapacity := by
  have split (e : Entry) : (b.setEntry n e).sharedCapacity =
      ((b.entries.take (n - 1)).map Entry.sharedCapacity).sum + e.sharedCapacity +
        ((b.entries.drop (n - 1 + 1)).map Entry.sharedCapacity).sum := by
    simp [PeerTable.sharedCapacity, PeerTable.setEntry, List.set_eq_take_append_cons_drop, inside]
    omega
  rw [split, split Entry.absent]
  simp [Entry.absent, Entry.sharedCapacity]
  omega

theorem setEntry_setEntry (e f : Entry) : (b.setEntry n e).setEntry n f = b.setEntry n f := by
  simp [PeerTable.setEntry]

/-- No entry but that of node `n` is LIVE. -/
theorem liveCount_setEntry_eq_zero {e : Entry} (length : b.entries.length = 16) (low : 1 ≤ n) (high : n ≤ 16)
    (dead : e.isLive = false) :
    (b.setEntry n e).liveCount = 0 ↔ ∀ m, 1 ≤ m → m ≤ 16 → m ≠ n → (b.entry m).isLive = false := by
  have places : (b.setEntry n e).liveCount = 0 ↔ ∀ m, 1 ≤ m → m ≤ 16 → ((b.setEntry n e).entry m).isLive = false := by
    rw [PeerTable.liveCount, List.countP_eq_zero]
    constructor
    · intro all m low high
      have inside : m - 1 < (b.setEntry n e).entries.length := by rw [setEntry_length, length]; omega
      have here : (b.setEntry n e).entry m = (b.setEntry n e).entries[m - 1] := by simp [PeerTable.entry, inside]
      rw [here]
      simpa using all _ (List.getElem_mem inside)
    · intro all x member
      obtain ⟨k, inside, rfl⟩ := List.getElem_of_mem member
      have bound : k < 16 := by rwa [setEntry_length, length] at inside
      have here := all (k + 1) (by omega) (by omega)
      simpa [PeerTable.entry, inside] using here
  rw [places]
  refine forall_congr' fun m => forall_congr' fun lowM => forall_congr' fun highM => ?_
  by_cases same : m = n
  · subst same
    rw [setEntry_same _ _ _ (by omega)]
    simp [dead]
  · rw [setEntry_other _ _ _ _ (by omega)]
    simp [same]

end

/-! ## A listing -/

/-- The table after a frame that lists the node, or does not (R80, R83). -/
def PeerTable.noted (b : PeerTable) (listed : Bool) (now : Time) : PeerTable :=
  { b with lastListed := if listed then some now else b.lastListed,
           switchPending := b.switchPending || (listed && b.mode.maySwitch) }

theorem noteListing_peers (listed : Bool) (s : State) : (noteListing listed s).peers = s.peers.noted listed s.clock := by
  cases listed <;> simp [noteListing, PeerTable.noted]

@[simp] theorem noted_entry (b : PeerTable) (listed : Bool) (now : Time) (n : Nat) : (b.noted listed now).entry n =
    b.entry n := rfl

theorem setEntry_peers (n : Nat) (e : Entry) (s : State) : (setEntry n e s).peers = s.peers.setEntry n e := rfl

/-! ## A good frame of another node -/

/-- The node when a good frame has been counted (R55). -/
def heardGood (s : State) : State :=
  s.withTally { s.tally with lineIdle := true, ownOnLine := none, goodReceived := s.tally.goodReceived + 1 }

@[simp] theorem heardGood_frame (s : State) : (heardGood s).clock = s.clock ∧ (heardGood s).nodeStraps = s.nodeStraps ∧
    (heardGood s).cfg = s.cfg ∧ (heardGood s).pulse = s.pulse ∧ (heardGood s).sensor = s.sensor ∧
    (heardGood s).conv = s.conv ∧ (heardGood s).peers = s.peers ∧ (heardGood s).dose = s.dose ∧ (heardGood s).pump = s.pump ∧
    (heardGood s).filter = s.filter ∧ (heardGood s).store = s.store ∧ (heardGood s).port = s.port ∧
    (heardGood s).alarm = s.alarm ∧ (heardGood s).nodeNumber = s.nodeNumber ∧ (heardGood s).advertised = s.advertised ∧
    (∀ c, (heardGood s).isTrue c = s.isTrue c) ∧ (∀ c, (heardGood s).isLatched c = s.isLatched c) := by
  simp [heardGood]

theorem heardGood_tally (s : State) : (heardGood s).tally =
    { s.tally with lineIdle := true, ownOnLine := none, goodReceived := s.tally.goodReceived + 1 } := rfl

section
variable {bytes : List Byte} {x y : Bool} {s : State} {f : Frame} (on : s.tally.receiver = .on)
  (other : s.isOwnFrame bytes = false) (good : judge bytes x y = .good f)
include on other good

theorem exec_frameEnd_good : exec (.frameEnd bytes x y) s =
    .next (startIfChanged s (goodFrame f (s.withTally { s.tally with lineIdle := true, ownOnLine := none }))) := by
  simp [exec, execFrameEnd, on, other, good]

theorem exec_frameEnd_taken (node : f.node.toNat ≠ s.nodeNumber) : exec (.frameEnd bytes x y) s =
    .next (startIfChanged s (takeFrame f (heardGood s))) := by
  rw [exec_frameEnd_good on other good, goodFrame]
  simp only [withTally_reads, if_neg node]
  rfl

end

/-! ## Admission -/

/-- Settles O43. -/
theorem admissionTakesBaselinesOnly : Obligations.AdmissionTakesBaselinesOnly := by
  intro bytes x y s f n on other good number node length dead
  have range := node_of_judge_good good
  have place : n - 1 < s.peers.entries.length := by simp only [Frame.node] at range; omega
  have admitted : takeFrame (.tally f) (heardGood s) = admission f (heardGood s) := by
    simp only [takeFrame, takeTally, heardGood_frame]
    split
    · next last status => simp [Entry.isLive, number ▸ status] at dead
    · rfl
  have runs := exec_frameEnd_taken on other good (number ▸ node)
  rw [admitted, startIfChanged_same s _
      (by simp [State.startInputs, admission, noteListing_peers, PeerTable.noted, setEntry, PeerTable.setEntry])] at runs
  refine ⟨_, runs, ?_⟩
  have peers : (admission f (heardGood s)).peers = (s.peers.setEntry n { s.peers.entry n with
      status := .live (s.fieldsOf f (if f.shared then some f.debt else none)), lastHeard := s.clock }).noted
          (s.listedIn f) s.clock := by
    simp only [admission, noteListing_peers, noteLiveCount_frame, setEntry_frame, setEntry_peers, heardGood_frame, ← number]
    rfl
  rw [peers]
  refine ⟨by simp [admission, heardGood_tally], ?entry, ?others, ?listed, ?unlisted, rfl, rfl, ?_⟩
  case entry => rw [noted_entry, setEntry_same _ _ _ place]; rfl
  case others =>
    intro m low other
    rw [noted_entry, setEntry_other _ _ _ _ (by simp only [Frame.node] at range; omega)]
  case listed =>
    intro listed
    have mark : s.listedIn f = true := listed
    simp [PeerTable.noted, PeerTable.setEntry, mark]
  case unlisted =>
    intro unlisted
    have mark : s.listedIn f = false := unlisted
    simp [PeerTable.noted, PeerTable.setEntry, mark]
  simp [admission]

/-! ## A TALLY of a LIVE peer -/

theorem implausibleTally_iff (dL dD dR : BitVec 32) : implausibleTally dL dD dR = true ↔
    100000 < dL.toNat ∨ 10000000 < dD.toNat ∨ 40000000 < dR.toNat := by
  simp only [implausibleTally, Bool.or_eq_true, decide_eq_true_eq]
  omega

/-- The table after an accepted TALLY of a LIVE peer (R72, R73). -/
def State.updatedPeers (s : State) (f : TallyFrame) (last : LiveFields) (bad : Bool) : PeerTable :=
  (s.peers.setEntry f.node.toNat
    { status := .live (s.fieldsOf f (if f.shared then some f.debt else last.sharedDebt)), lastHeard := s.clock,
      lost := (s.peers.entry f.node.toNat).lost + skippedFrames f.sequence last.sequence,
      implausible := if bad then (s.peers.entry f.node.toNat).implausible + 1
        else (s.peers.entry f.node.toNat).implausible }).noted (s.listedIn f) s.clock

theorem updateEntry_eq (f : TallyFrame) (last : LiveFields) (bad : Bool) (s : State) :
    updateEntry f last bad s = s.withPeers (s.updatedPeers f last bad) := by
  unfold updateEntry
  cases listed : s.listedIn f <;> simp [noteListing, State.updatedPeers, PeerTable.noted, setEntry, listed]

/-- No adoption and no charge comes of a TALLY unless node and peer are both SHARED (R74 to R76, R98). -/
theorem handTallyAdoption_of_apart {n : Nat} {last : LiveFields} {now : Bool} {dR : Nat} {s : State}
    (apart : s.peers.mode ≠ .shared ∨ last.shared = false) : handTallyAdoption n last now dR s = s := by
  obtain mode | solo := apart
  · have none_ (k : AdoptionKind) (x : Nat) : handAdoption k n x s = s := if_neg mode
    simp [handTallyAdoption, none_]
  · simp [handTallyAdoption, solo]

theorem handCharge_of_apart {last now : Bool} {dL : BitVec 32} {s : State}
    (apart : s.peers.mode ≠ .shared ∨ last = false) : handCharge last now dL s = s :=
  if_neg fun both => apart.elim (absurd both.1) (by simp [both.2.1])

theorem heardGood_updatedPeers (s : State) (f : TallyFrame) (last : LiveFields) (bad : Bool) :
    (heardGood s).updatedPeers f last bad = s.updatedPeers f last bad := rfl

theorem acceptTally_of_bad {f : TallyFrame} {last : LiveFields} {s : State}
    (bad : implausibleTally (f.litres - last.litres) (f.delivered - last.delivered) (f.released - last.released) = true) :
    acceptTally f last s = handTallyAdoption f.node.toNat last f.shared 0
      (raiseImplausible (s.withPeers (s.updatedPeers f last true))) := by
  simp only [acceptTally, bad, if_true, updateEntry_eq]

theorem acceptTally_of_plausible {f : TallyFrame} {last : LiveFields} {s : State}
    (plausible : implausibleTally (f.litres - last.litres) (f.delivered - last.delivered) (f.released - last.released) =
        false) :
    acceptTally f last s = addDelivered (f.delivered - last.delivered).toNat
      (addHeader ((f.litres - last.litres).toNat * 1000000)
        (handTallyAdoption f.node.toNat last f.shared (f.released - last.released).toNat
          (handCharge last.shared f.shared (f.litres - last.litres) (s.withPeers (s.updatedPeers f last false))))) := by
  simp only [acceptTally, plausible, updateEntry_eq]
  rfl

/-- What a command shows of an accepted TALLY, whatever it adopts and charges. -/
theorem acceptTally_peers (f : TallyFrame) (last : LiveFields) (s : State) : (acceptTally f last s).peers =
    s.updatedPeers f last
      (implausibleTally (f.litres - last.litres) (f.delivered - last.delivered) (f.released - last.released)) := by
  cases bad : implausibleTally (f.litres - last.litres) (f.delivered - last.delivered) (f.released - last.released) with
  | true => rw [acceptTally_of_bad bad]; simp [raiseImplausible]
  | false => rw [acceptTally_of_plausible bad]; simp

section
variable {s : State} {f : TallyFrame} {n : Nat} {last : LiveFields} {bad : Bool} (number : n = f.node.toNat)
include number

theorem updatedPeers_entry (inside : n - 1 < s.peers.entries.length) : (s.updatedPeers f last bad).entry n =
    { status := .live (s.fieldsOf f (if f.shared then some f.debt else last.sharedDebt)), lastHeard := s.clock,
      lost := (s.peers.entry n).lost + skippedFrames f.sequence last.sequence,
      implausible := if bad then (s.peers.entry n).implausible + 1 else (s.peers.entry n).implausible } := by
  subst number
  rw [State.updatedPeers, noted_entry, setEntry_same _ _ _ inside]

theorem updatedPeers_other {m : Nat} (low : 1 ≤ n) (lowM : 1 ≤ m) (other : m ≠ n) :
    (s.updatedPeers f last bad).entry m = s.peers.entry m := by
  rw [State.updatedPeers, noted_entry, setEntry_other _ _ _ _ (by omega)]

end

@[simp] theorem updatedPeers_marks (s : State) (f : TallyFrame) (last : LiveFields) (bad : Bool) :
    (s.updatedPeers f last bad).mode = s.peers.mode ∧ (s.updatedPeers f last bad).lastSharedDebt = s.peers.lastSharedDebt ∧
      (s.updatedPeers f last bad).lastListed = (if s.listedIn f then some s.clock else s.peers.lastListed) ∧
      (s.updatedPeers f last bad).switchPending =
        (s.peers.switchPending || (s.listedIn f && s.peers.mode.maySwitch)) := ⟨rfl, rfl, rfl, rfl⟩

theorem raiseImplausible_current (s : State) : (raiseImplausible s).store.current =
    s.store.current.map fun i => i.withFlag true .peerImplausible := by
  rw [← setFlagIf_current]
  rfl

theorem raiseImplausible_isLatched (c : Cond) (s : State) :
    (raiseImplausible s).isLatched c = (s.isLatched c || decide (c = .peerImplausible)) := by
  rw [raiseImplausible, raise_isLatched]
  simp

/-- Settles O44. -/
theorem talliesOfLivePeersReachTheFilter : Obligations.TalliesOfLivePeersReachTheFilter := by
  rintro bytes x y s f n e last bad on other good number node length rfl status judged
  have range := node_of_judge_good good
  simp only [Frame.node, ← number] at range
  have place : n - 1 < s.peers.entries.length := by omega
  have runs := exec_frameEnd_taken on other good (number ▸ node)
  have live : ((heardGood s).peers.entry f.node.toNat).status = .live last := by simpa [← number] using status
  have implausible : implausibleTally (f.litres - last.litres) (f.delivered - last.delivered)
      (f.released - last.released) = bad := by
    rw [Bool.eq_iff_iff, implausibleTally_iff, judged]
  refine ⟨fun repeated => ?_, fun fresh apart => ?_⟩
  · have same : takeFrame (.tally f) (heardGood s) = heardGood s := by simp only [takeFrame, takeTally, live, if_pos repeated]
    rw [runs, same, startIfChanged_same s (heardGood s) rfl]
    rfl
  · have taken : takeFrame (.tally f) (heardGood s) = acceptTally f last (heardGood s) := by
      simp only [takeFrame, takeTally, live, if_neg fresh]
    have accepted : acceptTally f last (heardGood s) = if bad then
          raiseImplausible ((heardGood s).withPeers (s.updatedPeers f last true))
        else addDelivered (f.delivered - last.delivered).toNat (addHeader ((f.litres - last.litres).toNat * 1000000)
          ((heardGood s).withPeers (s.updatedPeers f last false))) := by
      cases bad
      · rw [acceptTally_of_plausible implausible, heardGood_updatedPeers, handCharge_of_apart (by simpa using apart),
          handTallyAdoption_of_apart (by simpa using apart)]
        rfl
      · rw [acceptTally_of_bad implausible, heardGood_updatedPeers, handTallyAdoption_of_apart (by simpa using apart)]
        rfl
    have peers := acceptTally_peers f last (heardGood s)
    rw [implausible, heardGood_updatedPeers] at peers
    have inputs : (acceptTally f last (heardGood s)).startInputs = s.startInputs := by
      rw [accepted]
      cases bad <;> simp [State.startInputs]
    rw [taken, startIfChanged_same s _ inputs] at runs
    refine ⟨_, s.fieldsOf f (if f.shared then some f.debt else last.sharedDebt), runs, ?_⟩
    rw [peers, updatedPeers_entry number place]
    simp only [updatedPeers_marks]
    have others (m) (low : 1 ≤ m) (apart : m ≠ n) : (s.updatedPeers f last bad).entry m = s.peers.entry m :=
      updatedPeers_other number range.1 low apart
    refine ⟨?dose, ?pump, ?tally, ?cfg, ?pulse, ?sensor, ?conv, ?port, trivial, trivial, others, ?listed, ?unlisted, rfl,
      rfl, rfl, rfl, rfl, rfl, rfl, rfl, rfl, rfl, rfl, rfl, rfl, ?plausible, ?implausible⟩
    case listed => intro mark; change s.listedIn f = true at mark; simp [mark]
    case unlisted => intro mark; change s.listedIn f = false at mark; simp [mark]
    case plausible => rintro rfl; rw [accepted]; simp [addDelivered, addHeader]
    case implausible =>
      rintro rfl
      rw [accepted]
      refine ⟨by simp, by simp, ?_, fun i hi => ⟨i.withFlag true .peerImplausible, ?_, by simp⟩⟩
      · simp [raiseImplausible_isLatched]
      · simp [raiseImplausible_current, hi]
    all_goals rw [accepted]; cases bad <;> simp [heardGood_tally]

end Sys2Proof.Machine
end

section
/-! Charge and adoption at a frame of the Peer Table (chapters 5 and 6): the debt, the watermarks and the latches after them. -/

namespace Sys2Proof.Machine

/-! ## The watermarks at a change of the debt -/

section
variable {s t u : State}

/-- A test of the watermarks reads the debt and the marks before it, and the debt and the marks after it. -/
theorem WatermarksTested.congr (h : WatermarksTested s t) (cfg : s.cfg = u.cfg) (debt : s.dose.debt = u.dose.debt)
    (behind : s.pump.behind = u.pump.behind) (strained : s.pump.strained = u.pump.strained) : WatermarksTested u t := by
  simpa only [WatermarksTested, cfg, debt, behind, strained] using h

theorem watermarksTested_of_same (debt : t.dose.debt = s.dose.debt) (behind : t.pump.behind = s.pump.behind)
    (strained : t.pump.strained = s.pump.strained) : WatermarksTested s t := by
  simp [WatermarksTested, debt, behind, strained]

theorem takeIntoDebt_watermarks (x : Nat) (s : State) : WatermarksTested s (takeIntoDebt x s) := by
  unfold takeIntoDebt
  split
  · exact setDebt_watermarks _ s
  · exact (setDebt_watermarks _ _).congr (by simp) (by simp [addReleased]) (by simp) (by simp)

theorem charge_watermarks (w : Nat) (s : State) : WatermarksTested s (charge w s) := by
  unfold charge landCharge
  split
  · exact watermarksTested_of_same (by simp) (by simp) (by simp)
  · exact (takeIntoDebt_watermarks _ _).congr (by simp) (by simp) (by simp) (by simp)

theorem WatermarksTested.strained_eq (h : WatermarksTested s t) : t.pump.strained =
    if t.dose.debt = s.dose.debt then s.pump.strained
    else if t.dose.debt < s.cfg.hysteresis * s.cfg.strokeMass then false
    else s.pump.strained || decide (s.cfg.strain * s.cfg.strokeMass ≤ t.dose.debt) := by
  unfold WatermarksTested at h
  dsimp only at h
  (repeat' split at h) <;> simp_all

theorem advertised_congr (cfg : t.cfg = s.cfg) (condition : t.pump.condition = s.pump.condition)
    (strained : t.pump.strained = s.pump.strained) : t.advertised = s.advertised := by
  simp only [State.advertised, cfg, condition, strained]

end

/-! ## A charge and an adoption of a SHARED node -/

section
variable {s : State} (shared : s.peers.mode = .shared)
include shared

theorem denominatorWithout_of_shared (n : Nat) : s.denominatorWithout n =
    s.advertised + (s.peers.setEntry n Entry.absent).sharedCapacity := by
  simp [State.denominatorWithout, State.denominatorFrom, shared]

theorem handAdoption_eq (k : AdoptionKind) (n x : Nat) :
    handAdoption k n x s = startIfChanged s (adopt k n x (s.denominatorWithout n) s) := if_pos shared

theorem handAdoption_dose (k : AdoptionKind) (n x : Nat) : (handAdoption k n x s).dose =
    s.dose.adopting s.ceilingDebt k n x s.advertised (s.peers.setEntry n Entry.absent).sharedCapacity := by
  rw [handAdoption_eq shared, denominatorWithout_of_shared shared]
  simp [adopt_adopting]

theorem handCharge_eq (dL : BitVec 32) : handCharge true true dL s = startIfChanged s (peerCharge dL.toNat s) :=
  if_pos ⟨shared, rfl, rfl⟩

theorem handCharge_dose (dL : BitVec 32) : (handCharge true true dL s).dose =
    s.dose.charging s.ceilingDebt
      (dL.toNat * 1000000 * s.cfg.doseTarget * shareBeside s.advertised s.peers.sharedCapacity + s.dose.r)
      s.filter.throttled := by
  have share : s.share = shareBeside s.advertised s.peers.sharedCapacity := by
    rw [State.share, State.denominator_of_shared shared]
    rfl
  rw [handCharge_eq shared]
  simp [peerCharge, charge_charging, State.chargeSum, share]

theorem handCharge_strained (dL : BitVec 32) : (handCharge true true dL s).pump.strained =
    if (handCharge true true dL s).dose.debt = s.dose.debt then s.pump.strained
    else if (handCharge true true dL s).dose.debt < s.cfg.hysteresis * s.cfg.strokeMass then false
    else s.pump.strained || decide (s.cfg.strain * s.cfg.strokeMass ≤ (handCharge true true dL s).dose.debt) := by
  have tested : WatermarksTested s (peerCharge dL.toNat s) := charge_watermarks _ s
  rw [handCharge_eq shared]
  simpa using tested.strained_eq

end

section
variable {c : Cond} (fault : c ≠ .pumpFault) (strained : c ≠ .pumpStrained) (released : c ≠ .debtReleased)
include fault strained released

theorem adopt_isLatched (k : AdoptionKind) (p o x : Nat) (s : State) : (adopt k p o x s).isLatched c = s.isLatched c := by
  simp [adopt, takeIntoDebt_isLatched, fault, strained, released]

theorem handAdoption_isLatched (k : AdoptionKind) (n x : Nat) (s : State) :
    (handAdoption k n x s).isLatched c = s.isLatched c := by
  unfold handAdoption
  split
  · simp [adopt_isLatched fault strained released]
  · rfl

theorem handCharge_isLatched (v w : Bool) (dL : BitVec 32) (s : State) :
    (handCharge v w dL s).isLatched c = s.isLatched c := by
  unfold handCharge
  split
  · simp [peerCharge, charge_isLatched, fault, strained, released]
  · rfl

theorem handTallyAdoption_isLatched (n : Nat) (last : LiveFields) (v : Bool) (x : Nat) (s : State) :
    (handTallyAdoption n last v x s).isLatched c = s.isLatched c := by
  unfold handTallyAdoption
  (repeat' split) <;> simp [handAdoption_isLatched fault strained released]

end

/-- A flag of the open interval stays set through every change but a close. -/
theorem Changes.flag_stays {b : Scope} {s t : State} (chain : Changes b s t) {f : Flag} {i : CurrentInterval}
    (open_ : s.store.current = some i) (set : i.hasFlag f = true) : ∃ j, t.store.current = some j ∧ j.hasFlag f = true := by
  obtain ⟨j, hj, collected⟩ := chain.collects.current i open_
  exact ⟨j, hj, collected.flags f set⟩

/-! ## A TALLY between SHARED nodes -/

theorem handTallyAdoption_of_stays {n : Nat} {last : LiveFields} (was : last.shared = true) (x : Nat) (s : State) :
    handTallyAdoption n last true x s = if 0 < x then handAdoption .released n x s else s := by
  simp [handTallyAdoption, was]

theorem handTallyAdoption_of_leaves {n : Nat} {last : LiveFields} (was : last.shared = true) (x : Nat) (s : State) :
    handTallyAdoption n last false x s = handAdoption .modeChange n (max (last.sharedDebt.getD 0).toNat x) s := by
  simp [handTallyAdoption, was]

theorem handCharge_of_solo (v : Bool) (dL : BitVec 32) (s : State) : handCharge v false dL s = s := if_neg (by simp)

section
variable {s : State} {f : TallyFrame} {last : LiveFields} {bad : Bool}

theorem updatedPeers_without : ((s.updatedPeers f last bad).setEntry f.node.toNat Entry.absent).sharedCapacity =
    (s.peers.setEntry f.node.toNat Entry.absent).sharedCapacity := by
  rw [← setEntry_setEntry (b := s.peers)]
  rfl

theorem updatedPeers_sharedCapacity (inside : f.node.toNat - 1 < s.peers.entries.length) (now : f.shared = true) :
    (s.updatedPeers f last bad).sharedCapacity =
      (s.peers.setEntry f.node.toNat Entry.absent).sharedCapacity + f.capacity.toNat := by
  refine (setEntry_sharedCapacity inside _).trans ?_
  simp [Entry.sharedCapacity, State.fieldsOf, now]

/-- An implausible TALLY raises PEER IMPLAUSIBLE and its flag, and a plausible one leaves the latch (R73). -/
theorem acceptTally_latch_flag (implausible : implausibleTally (f.litres - last.litres) (f.delivered - last.delivered)
      (f.released - last.released) = bad) :
    (acceptTally f last s).isLatched .peerImplausible = (s.isLatched .peerImplausible || bad) ∧
      (bad = true → ∀ i, s.store.current = some i →
        ∃ j, (acceptTally f last s).store.current = some j ∧ j.hasFlag .peerImplausible = true) := by
  have adoption := handTallyAdoption_isLatched (c := .peerImplausible) nofun nofun nofun
  have charge := handCharge_isLatched (c := .peerImplausible) nofun nofun nofun
  cases bad with
  | false =>
    rw [acceptTally_of_plausible implausible]
    exact ⟨by simp [adoption, charge], nofun⟩
  | true =>
    rw [acceptTally_of_bad implausible]
    refine ⟨by simp [adoption, raiseImplausible_isLatched], fun _ i hi => ?_⟩
    refine (handTallyAdoption_changes (b := .plain) _ _ _ _ .refl).flag_stays (i := i.withFlag true .peerImplausible) ?_
        (by simp)
    simp [raiseImplausible_current, hi]

theorem acceptTally_filter (implausible : implausibleTally (f.litres - last.litres) (f.delivered - last.delivered)
      (f.released - last.released) = bad) :
    (acceptTally f last s).filter = (if bad then s.filter else { s.filter with
      volume := s.filter.volume + BitVec.ofNat 64 ((f.litres - last.litres).toNat * 1000000),
      delivered := s.filter.delivered + BitVec.ofNat 64 (f.delivered - last.delivered).toNat }) ∧
    (acceptTally f last s).store.header = (if bad then s.store.header
      else s.store.header + BitVec.ofNat 64 ((f.litres - last.litres).toNat * 1000000)) := by
  cases bad with
  | false => rw [acceptTally_of_plausible implausible]; simp [addDelivered, addHeader]
  | true => rw [acceptTally_of_bad implausible]; simp

/-! The dose of a SHARED node at a TALLY of a SHARED peer (R74 to R76). -/

theorem acceptTally_dose_of_bad (shared : s.peers.mode = .shared) (was : last.shared = true)
    (bad : implausibleTally (f.litres - last.litres) (f.delivered - last.delivered) (f.released - last.released) = true) :
    (acceptTally f last s).dose = if f.shared then s.dose else
      s.dose.adopting s.ceilingDebt .modeChange f.node.toNat (last.sharedDebt.getD 0).toNat s.advertised
        (s.peers.setEntry f.node.toNat Entry.absent).sharedCapacity := by
  rw [acceptTally_of_bad bad]
  cases f.shared with
  | true => simp [handTallyAdoption_of_stays was]
  | false =>
    rw [handTallyAdoption_of_leaves was, handAdoption_dose (by simpa using shared)]
    simp [updatedPeers_without, State.ceilingDebt]

theorem acceptTally_dose_of_leaves (shared : s.peers.mode = .shared) (was : last.shared = true) (now : f.shared = false)
    (plausible : implausibleTally (f.litres - last.litres) (f.delivered - last.delivered) (f.released - last.released) =
        false) :
    (acceptTally f last s).dose = s.dose.adopting s.ceilingDebt .modeChange f.node.toNat
      (max (last.sharedDebt.getD 0).toNat (f.released - last.released).toNat) s.advertised
      (s.peers.setEntry f.node.toNat Entry.absent).sharedCapacity := by
  rw [acceptTally_of_plausible plausible, now, handTallyAdoption_of_leaves was, handCharge_of_solo]
  simp only [addDelivered_frame, addHeader_frame]
  rw [handAdoption_dose (by simpa using shared)]
  simp [updatedPeers_without, State.ceilingDebt]

theorem acceptTally_dose_of_stays {strained : Bool} {charged : DoseAccounting}
    (inside : f.node.toNat - 1 < s.peers.entries.length)
    (shared : s.peers.mode = .shared) (was : last.shared = true) (now : f.shared = true)
    (plausible : implausibleTally (f.litres - last.litres) (f.delivered - last.delivered) (f.released - last.released) =
        false)
    (charging : charged = s.dose.charging s.ceilingDebt
      ((f.litres - last.litres).toNat * 1000000 * s.cfg.doseTarget * shareBeside s.advertised
        ((s.peers.setEntry f.node.toNat Entry.absent).sharedCapacity + f.capacity.toNat) + s.dose.r) s.filter.throttled)
    (mark : strained = if charged.debt = s.dose.debt then s.pump.strained
      else if charged.debt < s.cfg.hysteresis * s.cfg.strokeMass then false
      else s.pump.strained || decide (s.cfg.strain * s.cfg.strokeMass ≤ charged.debt)) :
    (acceptTally f last s).dose = if 0 < (f.released - last.released).toNat then
      charged.adopting s.ceilingDebt .released f.node.toNat (f.released - last.released).toNat
        (s.withPump { s.pump with strained := strained }).advertised
        (s.peers.setEntry f.node.toNat Entry.absent).sharedCapacity
      else charged := by
  rw [acceptTally_of_plausible plausible, now, handTallyAdoption_of_stays was, was]
  simp only [addDelivered_frame, addHeader_frame]
  generalize entered : s.withPeers (s.updatedPeers f last false) = u
  have active : u.peers.mode = .shared := by simpa [← entered] using shared
  have dose : (handCharge true true (f.litres - last.litres) u).dose = charged := by
    rw [handCharge_dose active, charging, ← entered]
    simp [updatedPeers_sharedCapacity inside now, State.ceilingDebt]
  have after : (handCharge true true (f.litres - last.litres) u).pump.strained = strained := by
    rw [handCharge_strained active, dose, mark, ← entered]
    rfl
  have capacity : (handCharge true true (f.litres - last.litres) u).advertised =
      (s.withPump { s.pump with strained := strained }).advertised :=
    advertised_congr (by simp [← entered]) (by simp [← entered]) after
  split
  · rw [handAdoption_dose (by simpa using active), dose, capacity]
    simp [← entered, updatedPeers_without, State.ceilingDebt]
  · exact dose

end

/-- Settles O45. -/
theorem releasedOdorantIsAdopted : Obligations.ReleasedOdorantIsAdopted := by
  rintro bytes x y s f n e last bad dL dD dR rest ceiling charged strained on other good rfl node length rfl status fresh shared was
    rfl rfl rfl judged rfl rfl charging mark
  have range := node_of_judge_good good
  simp only [Frame.node] at range
  have place : f.node.toNat - 1 < s.peers.entries.length := by omega
  have runs := exec_frameEnd_taken on other good node
  have implausible : implausibleTally (f.litres - last.litres) (f.delivered - last.delivered)
      (f.released - last.released) = bad := by
    rw [Bool.eq_iff_iff, implausibleTally_iff, judged]
  have taken : takeFrame (.tally f) (heardGood s) = acceptTally f last (heardGood s) := by
    simp only [takeFrame, takeTally, heardGood_frame, status, if_neg fresh]
  have peers := acceptTally_peers f last (heardGood s)
  rw [implausible, heardGood_updatedPeers] at peers
  have mode : (heardGood s).peers.mode = .shared := by simpa using shared
  obtain ⟨latch, flag⟩ := acceptTally_latch_flag (s := heardGood s) implausible
  obtain ⟨filter, header⟩ := acceptTally_filter (s := heardGood s) implausible
  rw [taken] at runs
  refine ⟨_, s.fieldsOf f (if f.shared then some f.debt else last.sharedDebt), runs, ?_⟩
  simp only [startIfChanged_frame, startIfChanged_reads, acceptTally_frame, heardGood_frame] at latch flag filter header ⊢
  rw [peers, updatedPeers_entry rfl place]
  refine ⟨heardGood_tally s, rfl, rfl, rfl, rfl, rfl, rfl, rfl, rfl, rfl, rfl, rfl, rfl, rfl, rfl, ?pending, rfl, ?others,
      shared,
    trivial, trivial, trivial, trivial, trivial, ?implausible, ?plausible⟩
  case pending => simp [shared, Mode.maySwitch]
  case others => exact fun m low apart => updatedPeers_other rfl range.1 low apart
  case implausible =>
    rintro rfl
    have dose := acceptTally_dose_of_bad mode was implausible
    refine ⟨filter, header, by simpa using latch, flag rfl, fun now => ?_, fun now => ?_⟩
    · simpa [now] using dose
    · simpa [now, State.ceilingDebt] using dose
  case plausible =>
    rintro rfl
    have stays (now : f.shared = true) := acceptTally_dose_of_stays
        (s := heardGood s) place mode was now implausible charging mark
    refine ⟨filter, header, by simpa using latch, fun now none_ => ?_, fun now some_ => ?_, fun now => ?_⟩
    · rw [stays now, none_]; rfl
    · rw [stays now, if_pos some_]; rfl
    · rw [acceptTally_dose_of_leaves mode was now implausible]; rfl

end Sys2Proof.Machine
end

section
/-! The end of a peer (sections 5.4 to 5.7): LEAVE, expiry, the own number heard, and the UNHEARD test. -/

namespace Sys2Proof.Machine

/-! ## A change of mode -/

theorem setMode_isLatched (m : Mode) {c : Cond} (alone : c ≠ .alone) (unheard : c ≠ .unheard) (s : State) :
    (setMode m s).isLatched c = s.isLatched c := by
  simp [setMode, setLevel_isLatched, alone, unheard]

theorem setMode_isLatched_unheard (s : State) (clear : s.isTrue .unheard = false) :
    (setMode (.solo .unheard) s).isLatched .unheard = true := by
  simp [setMode, setLevel_isLatched, clear]

section
variable {c : Cond} (fault : c ≠ .pumpFault) (strained : c ≠ .pumpStrained)
include fault strained

theorem leaveShared_isLatched (cause : SoloCause) (s : State) :
    (leaveShared cause s).isLatched c = (setMode (.solo cause) s).isLatched c := by
  simp [leaveShared, surrender_isLatched c _ fault strained]

theorem aloneIfNone_isLatched (alone : c ≠ .alone) (unheard : c ≠ .unheard) (s : State) :
    (aloneIfNone s).isLatched c = s.isLatched c := by
  unfold aloneIfNone
  split
  · rw [leaveShared_isLatched fault strained, setMode_isLatched _ alone unheard]
  · rfl

end

theorem surrendering_eq (d : DoseAccounting) (last : BitVec 32) {x : Nat} (amount : x = min d.debt last.toNat) :
    d.surrendering last = { d with debt := d.debt - x, surrendered := d.surrendered + BitVec.ofNat 64 x } := by
  subst amount; rfl

/-- Settles O49. -/
theorem unheardNodesGoSoloAndSurrender : Obligations.UnheardNodesGoSoloAndSurrender := by
  intro s t0 x shared peers listed lapsed amount
  have due : s.unheardDue = true := by
    simpa [State.unheardDue, shared, peers] using (hasRun_iff _ _ _).2 ⟨t0, listed, lapsed⟩
  refine ⟨_, if_pos due, ?_⟩
  simp only [startIfChanged_frame, startIfChanged_reads, leaveShared_frame, leaveShared_peers, leaveShared_dose,
    leaveShared_isTrue _ .unheard _ nofun nofun, leaveShared_isLatched (c := .unheard) nofun nofun,
        surrendering_eq _ _ amount]
  refine ⟨trivial, by simp [setMode_isTrue], fun clear => setMode_isLatched_unheard s clear, trivial, trivial, trivial,
      trivial, trivial,
    trivial, trivial, trivial⟩

/-! ## The own number heard -/

/-- The node is in SOLO(DUPLICATE), surrendered where it was SHARED (R87, R88). -/
theorem duplicate_effect {s : State} {x : Nat}
    (amount : x = if s.peers.mode = .shared then min s.dose.debt s.peers.lastSharedDebt.toNat else 0) :
    (duplicate s).peers = { s.peers with mode := .solo .duplicate, switchPending := false } ∧
      (duplicate s).dose = { s.dose with debt := s.dose.debt - x, surrendered := s.dose.surrendered + BitVec.ofNat 64 x } ∧
      (duplicate s).isTrue .duplicateNumber = true := by
  have level : (duplicate s).isTrue .duplicateNumber = true := by simp [duplicate, setLevel_isTrue]
  by_cases shared : s.peers.mode = .shared
  · rw [if_pos shared] at amount
    exact ⟨by simp [duplicate, shared, leaveShared_peers, setSwitchPending, silence],
      by simp [duplicate, shared, leaveShared_dose, surrendering_eq _ _ amount], level⟩
  · rw [if_neg shared] at amount
    subst amount
    exact ⟨by simp [duplicate, shared, setMode_peers, setSwitchPending, silence], by simp [duplicate, shared], level⟩

/-- Settles O47. -/
theorem ownNumberHeardSilencesTheNode : Obligations.OwnNumberHeardSilencesTheNode := by
  intro bytes x y s f on other good own
  have runs := exec_frameEnd_good on other good
  generalize heard : s.withTally { s.tally with lineIdle := true, ownOnLine := none, goodReceived := s.tally.goodReceived + 1,
                                                 ownNumber := s.tally.ownNumber + 1 } = u
  have taken : goodFrame f (s.withTally { s.tally with lineIdle := true, ownOnLine := none }) =
      if s.tally.transmitter = .silent then u else duplicate u := by
    rw [goodFrame, ← heard]
    exact if_pos own
  rw [taken] at runs
  refine ⟨fun silent => ?_, fun speaks => ?_⟩
  · rw [if_pos silent, startIfChanged_same s u (by rw [← heard]; rfl)] at runs
    exact runs
  · rw [if_neg speaks] at runs
    refine ⟨_, _, runs, rfl, ?_⟩
    obtain ⟨peers, dose, level⟩ := duplicate_effect (s := u) rfl
    simp only [startIfChanged_frame, startIfChanged_reads, peers, dose, level, duplicate_tally, duplicate_frame]
    subst heard
    exact ⟨rfl, rfl, rfl, trivial, rfl, rfl, rfl, rfl, rfl, rfl⟩

/-! ## The last entry goes -/

section
variable {s v : State} {n : Nat} {e : Entry} (peers : v.peers = s.peers.setEntry n e) (dead : e.isLive = false)
  (length : s.peers.entries.length = 16) (low : 1 ≤ n) (high : n ≤ 16)
include peers

theorem aloneIfNone_of_not_shared (mode : s.peers.mode ≠ .shared) : aloneIfNone v = v :=
  aloneIfNone_of_stays (.inl (by simpa [peers, PeerTable.setEntry] using mode))

include dead length low high

theorem aloneIfNone_of_other (other : ∃ m, 1 ≤ m ∧ m ≤ 16 ∧ m ≠ n ∧ (s.peers.entry m).isLive = true) : aloneIfNone v = v := by
  refine aloneIfNone_of_stays (.inr ?_)
  rw [peers, Ne, liveCount_setEntry_eq_zero length low high dead]
  obtain ⟨m, lowM, highM, apart, live⟩ := other
  exact fun all => by simp [all m lowM highM apart] at live

theorem aloneIfNone_of_last (mode : s.peers.mode = .shared)
    (last : ∀ m, 1 ≤ m → m ≤ 16 → m ≠ n → (s.peers.entry m).isLive = false) : aloneIfNone v = leaveShared .alone v := by
  refine aloneIfNone_of_none (by simpa [peers, PeerTable.setEntry] using mode) ?_
  rwa [peers, liveCount_setEntry_eq_zero length low high dead]

end

theorem leaveShared_alone (s : State) : (leaveShared .alone s).peers.mode =
    .solo .alone ∧ (leaveShared .alone s).isTrue .alone = true := by
  rw [leaveShared_peers, leaveShared_isTrue _ .alone _ nofun nofun, setMode_isTrue]
  exact ⟨rfl, by simp⟩

/-! ## Expiry -/

/-- The node in which an entry has expired, before it adopts (R79). -/
def peerLost (n : Nat) (e : Entry) (s : State) : State :=
  raise .peerLost (setFlag .peerLost (noteLiveCount (setEntry n { e with status := .expired } s)))

theorem expire_eq (n : Nat) (f : LiveFields) (s : State) : expire n f s =
    aloneIfNone (if f.shared then handAdoption .expiry n f.debt.toNat (peerLost n (s.peers.entry n) s)
      else peerLost n (s.peers.entry n) s) := rfl

@[simp] theorem peerLost_frame (n : Nat) (e : Entry) (s : State) :
    (peerLost n e s).clock = s.clock ∧ (peerLost n e s).cfg = s.cfg ∧ (peerLost n e s).tally = s.tally ∧
      (peerLost n e s).dose = s.dose ∧ (peerLost n e s).pump = s.pump ∧ (peerLost n e s).filter = s.filter ∧
      (peerLost n e s).advertised = s.advertised ∧ (peerLost n e s).ceilingDebt = s.ceilingDebt ∧
      (peerLost n e s).peers = s.peers.setEntry n { e with status := .expired } := by
  simp [peerLost, State.ceilingDebt, setEntry]

theorem peerLost_latch_flag (n : Nat) (e : Entry) (s : State) : (peerLost n e s).isLatched .peerLost = true ∧
    (∀ i, s.store.current = some i → ∃ j, (peerLost n e s).store.current = some j ∧ j.hasFlag .peerLost = true) := by
  refine ⟨by simp [peerLost, raise_isLatched], fun i hi => ?_⟩
  have current : (peerLost n e s).store.current =
      (noteLiveCount (setEntry n { e with status := .expired } s)).store.current.map
      fun i => i.withFlag true .peerLost := by
    rw [← setFlagIf_current]
    rfl
  rw [current]
  simp [noteLiveCount, onInterval, setEntry, hi]

/-- Settles O48. -/
theorem peersExpire : Obligations.PeersExpire := by
  rintro s n e f rest adopted low high length rfl status lapsed rfl adopts
  have place : n - 1 < s.peers.entries.length := by omega
  have due : s.peerDue n = true := (peerDue_iff s n).2 ⟨f, status, lapsed⟩
  have runs : exec (.peerExpiry n) s = .next (startIfChanged s (expire n f s)) := by
    simp only [exec, execPeerExpiry, status, due, if_true]
  generalize expired : (if f.shared then handAdoption .expiry n f.debt.toNat (peerLost n (s.peers.entry n) s)
    else peerLost n (s.peers.entry n) s) = v
  have peers : v.peers = s.peers.setEntry n { s.peers.entry n with status := .expired } := by
    rw [← expired]; split <;> simp
  have chain : Changes .table (peerLost n (s.peers.entry n) s) v := by
    rw [← expired]; split
    · exact handAdoption_changes _ _ _ .refl
    · exact .refl
  have dose (mode : s.peers.mode = .shared) : v.dose = adopted := by
    rw [adopts, ← expired]; split
    · rw [handAdoption_dose (by simpa [PeerTable.setEntry] using mode)]
      simp [setEntry_setEntry, State.ceilingDebt]
    · simp
  have same : expire n f s = aloneIfNone v := by rw [expire_eq, expired]
  have entries (m : Nat) : (expire n f s).peers.entry m = v.peers.entry m := by
    simp only [same, PeerTable.entry, aloneIfNone_keeps]
  obtain ⟨latch, flag⟩ := peerLost_latch_flag n (s.peers.entry n) s
  refine ⟨_, runs, ?_⟩
  simp only [startIfChanged_frame, startIfChanged_reads, expire_frame, entries, peers]
  refine ⟨setEntry_same _ _ _ place, fun m lowM other => setEntry_other _ _ _ _ (by omega), ?latch, fun i hi => ?flag,
      trivial, trivial,
    trivial, trivial, trivial, trivial, trivial, fun mode => ?apart, fun mode some_ => ?stays, fun mode none_ => ?last⟩
  case latch => rw [same]; exact (aloneIfNone_changes chain).collects.latches _ latch
  case flag =>
    obtain ⟨j, hj, set⟩ := flag i hi
    rw [same]
    exact (aloneIfNone_changes chain).flag_stays hj set
  case apart =>
    have stands : expire n f s = peerLost n (s.peers.entry n) s := by
      rw [same, aloneIfNone_of_not_shared peers mode, ← expired]
      split
      · exact if_neg (by simpa [PeerTable.setEntry] using mode)
      · rfl
    rw [stands, startIfChanged_same s _ (by simp [State.startInputs, PeerTable.setEntry])]
    simp [PeerTable.setEntry]
  case stays =>
    rw [same, aloneIfNone_of_other peers rfl length low high some_, dose mode, peers]
    exact ⟨mode, rfl⟩
  case last =>
    rw [same, aloneIfNone_of_last peers rfl length low high mode none_, leaveShared_dose, dose mode, peers]
    exact ⟨(leaveShared_alone v).1, (leaveShared_alone v).2, rfl⟩

/-! ## LEAVE -/

/-- The node in which the sender of a LEAVE has left, before it adopts (R78). -/
def peerLeft (f : LeaveFrame) (last : LiveFields) (bad : Bool) (s : State) : State :=
  noteLiveCount (setEntry f.node.toNat
    { status := .left, lastHeard := s.clock,
      lost := (s.peers.entry f.node.toNat).lost + skippedFrames f.sequence last.sequence,
      implausible := if bad then (s.peers.entry f.node.toNat).implausible + 1
        else (s.peers.entry f.node.toNat).implausible } s)

/-- What a LEAVE of a LIVE entry of node `n` with released delta `x` brings before the node looks for other entries (R73, R75,
R78). -/
def leaveBrings (n : Nat) (last : LiveFields) (bad : Bool) (x : Nat) (s : State) : State :=
  if bad then raiseImplausible s
  else if 0 < x ∧ last.shared = true then handAdoption .released n x s
  else s

section
variable {f : LeaveFrame} {last : LiveFields} {bad : Bool} {n x : Nat} {s : State}

theorem acceptLeave_eq (implausible : implausibleLeave (f.released - last.released) = bad) : acceptLeave f last s =
    aloneIfNone (leaveBrings f.node.toNat last bad (f.released - last.released).toNat (peerLeft f last bad s)) := by
  subst implausible; rfl

@[simp] theorem peerLeft_frame : (peerLeft f last bad s).clock = s.clock ∧ (peerLeft f last bad s).cfg = s.cfg ∧
    (peerLeft f last bad s).dose = s.dose ∧ (peerLeft f last bad s).advertised = s.advertised ∧
    (peerLeft f last bad s).ceilingDebt = s.ceilingDebt ∧ (peerLeft f last bad s).peers.mode = s.peers.mode ∧
    (peerLeft f last bad s).store.current.isSome = s.store.current.isSome ∧
    (∀ c, (peerLeft f last bad s).isLatched c = s.isLatched c) := by
  simp [peerLeft, State.ceilingDebt, setEntry, PeerTable.setEntry]

theorem leaveBrings_peers : (leaveBrings n last bad x s).peers = s.peers := by
  unfold leaveBrings
  (repeat' split) <;> simp

theorem leaveBrings_dose (shared : s.peers.mode = .shared) : (leaveBrings n last bad x s).dose =
    if bad = false ∧ 0 < x ∧ last.shared = true then
      s.dose.adopting s.ceilingDebt .released n x s.advertised (s.peers.setEntry n Entry.absent).sharedCapacity
    else s.dose := by
  unfold leaveBrings
  cases bad with
  | true => simp
  | false =>
    by_cases adopts : 0 < x ∧ last.shared = true
    · simp [adopts, handAdoption_dose shared]
    · simp [adopts]

theorem leaveBrings_isLatched {c : Cond} (fault : c ≠ .pumpFault) (strained : c ≠ .pumpStrained)
    (released : c ≠ .debtReleased) :
    (leaveBrings n last bad x s).isLatched c = (s.isLatched c || (bad && decide (c = .peerImplausible))) := by
  unfold leaveBrings
  cases bad with
  | true => simp [raiseImplausible_isLatched]
  | false =>
    by_cases adopts : 0 < x ∧ last.shared = true
    · simp [adopts, handAdoption_isLatched fault strained released]
    · simp [adopts]

theorem leaveBrings_dose_of_apart (mode : s.peers.mode ≠ .shared) : (leaveBrings n last bad x s).dose = s.dose := by
  have none_ : handAdoption .released n x s = s := if_neg mode
  unfold leaveBrings
  (repeat' split) <;> simp [none_]

end

theorem implausibleLeave_iff (dR : BitVec 32) : implausibleLeave dR = true ↔ 40000000 < dR.toNat := by
  simp only [implausibleLeave, Bool.or_eq_true, decide_eq_true_eq]
  omega

/-- Settles O46. -/
theorem leaveFramesMakeTheEntryLeft : Obligations.LeaveFramesMakeTheEntryLeft := by
  rintro bytes x y s f n e rest on other good rfl node length rfl rfl
  have range := node_of_judge_good good
  simp only [Frame.node] at range
  have place : f.node.toNat - 1 < s.peers.entries.length := by omega
  have runs := exec_frameEnd_taken on other good node
  refine ⟨fun dead => ?_, fun last status repeated => ?_, ?_⟩
  · have taken : takeFrame (.leave f) (heardGood s) = (heardGood s).withPeers
        (s.peers.setEntry f.node.toNat { s.peers.entry f.node.toNat with status := .left, lastHeard := s.clock }) := by
      simp only [takeFrame, takeLeave, heardGood_frame]
      split
      · next last status => simp [Entry.isLive, status] at dead
      · rfl
    rw [runs, taken, startIfChanged_same s _ (by simp [State.startInputs, PeerTable.setEntry])]
    rfl
  · have same : takeFrame (.leave f) (heardGood s) = heardGood s := by
      simp only [takeFrame, takeLeave, heardGood_frame, status, if_pos repeated]
    rw [runs, same, startIfChanged_same s (heardGood s) rfl]
    rfl
  · rintro last dR bad adopted status fresh rfl judged adopts
    have implausible : implausibleLeave (f.released - last.released) =
        bad := by rw [Bool.eq_iff_iff, implausibleLeave_iff, judged]
    have taken : takeFrame (.leave f) (heardGood s) = acceptLeave f last (heardGood s) := by
      simp only [takeFrame, takeLeave, heardGood_frame, status, if_neg fresh]
    rw [taken] at runs
    have same := acceptLeave_eq (s := heardGood s) implausible
    generalize brought :
      leaveBrings f.node.toNat last bad (f.released - last.released).toNat (peerLeft f last bad (heardGood s)) = v at same
    have peers : v.peers = s.peers.setEntry f.node.toNat
        { status := .left, lastHeard := s.clock,
          lost := (s.peers.entry f.node.toNat).lost + skippedFrames f.sequence last.sequence,
          implausible := if bad then (s.peers.entry f.node.toNat).implausible + 1
            else (s.peers.entry f.node.toNat).implausible } := by
      rw [← brought, leaveBrings_peers]
      rfl
    have entries (m : Nat) : (acceptLeave f last (heardGood s)).peers.entry m = v.peers.entry m := by
      simp only [same, PeerTable.entry, aloneIfNone_keeps]
    have dose (mode : s.peers.mode = .shared) : v.dose = adopted := by
      rw [adopts, ← brought, leaveBrings_dose (by simpa using mode)]
      simp only [peerLeft_frame, heardGood_frame]
      rw [← setEntry_setEntry (b := s.peers)]
      rfl
    have latches (c : Cond) (fault : c ≠ .pumpFault) (strained : c ≠ .pumpStrained) (released : c ≠ .debtReleased)
        (alone : c ≠ .alone) (unheard : c ≠ .unheard) : (acceptLeave f last (heardGood s)).isLatched c =
          (s.isLatched c || (bad && decide (c = .peerImplausible))) := by
      rw [same, aloneIfNone_isLatched fault strained alone unheard, ← brought, leaveBrings_isLatched fault strained released]
      simp
    refine ⟨_, runs, ?_⟩
    simp only [startIfChanged_frame, startIfChanged_reads, acceptLeave_frame, entries, peers, heardGood_frame]
    refine ⟨trivial, trivial, heardGood_tally s, setEntry_same _ _ _ place,
        fun m lowM apart => setEntry_other _ _ _ _ (by omega),
      ?lost, ?implausible, fun set i hi => ?flag, fun mode => ?apart, fun mode some_ => ?stays, fun mode none_ => ?last⟩
    case lost => simp [latches .peerLost nofun nofun nofun nofun nofun]
    case implausible => simp [latches .peerImplausible nofun nofun nofun nofun nofun]
    case flag =>
      subst set
      obtain ⟨j, hj⟩ := Option.isSome_iff_exists.1
          (show (peerLeft f last true (heardGood s)).store.current.isSome by simp [hi])
      have raised : v.store.current = some (j.withFlag true .peerImplausible) := by
        rw [← brought, leaveBrings, if_pos rfl, raiseImplausible_current, hj]
        rfl
      rw [same]
      exact (aloneIfNone_changes .refl).flag_stays raised (by simp)
    case apart =>
      rw [same, aloneIfNone_of_not_shared peers mode, ← brought, leaveBrings_dose_of_apart (by simpa using mode),
          leaveBrings_peers]
      simp
    case stays =>
      rw [same, aloneIfNone_of_other peers rfl length range.1 range.2 some_, dose mode, peers]
      exact ⟨mode, rfl⟩
    case last =>
      rw [same, aloneIfNone_of_last peers rfl length range.1 range.2 mode none_, leaveShared_dose, dose mode, peers]
      exact ⟨(leaveShared_alone v).1, (leaveShared_alone v).2, rfl⟩

end Sys2Proof.Machine
end

section
/-! The strokes (sections 7.3 to 7.5): a stroke confirms, or misses. -/

namespace Sys2Proof.Machine

/-! ## A change of the debt tests the watermarks -/

theorem release_watermarks (s : State) : WatermarksTested s (release s) := by
  unfold release
  split
  · exact watermarksTested_of_same rfl rfl rfl
  · exact (setDebt_watermarks _ _).congr (by simp) (by simp [addReleased]) (by simp) (by simp)

theorem debit_watermarks (s : State) : WatermarksTested s (debit s) :=
  (setDebt_watermarks _ _).congr (by simp) (by simp) (by simp) (by simp)

/-- A test of the watermarks reads neither the stroke nor any other block. -/
theorem WatermarksTested.after {s t u : State} (h : WatermarksTested s t) (debt : u.dose.debt = t.dose.debt)
    (behind : u.pump.behind = t.pump.behind) (strained : u.pump.strained = t.pump.strained) : WatermarksTested s u := by
  simpa only [WatermarksTested, debt, behind, strained] using h

/-- No start while a stroke is in flight. -/
theorem startIfChanged_of_stroke {t : State} {k : Stroke} (s : State) (stroke : t.pump.stroke = some k) :
    startIfChanged s t = t :=
  startIfChanged_of_not s t (by simp [State.mayStart, stroke])

/-! ## A stroke confirms -/

section
variable {k : Stroke} {s : State}

theorem confirmStroke_of_prime (prime : k.prime = true) : confirmStroke k s =
    confirmPrime k.counts (s.withPump { s.pump with missCount := 0, stroke := some { k with confirmed := true } }) := by
  simp [confirmStroke, prime]

theorem confirmStroke_of_dosing (dosing : k.prime = false) : confirmStroke k s =
    debit (countStroke (s.withPump { s.pump with missCount := 0, stroke := some { k with confirmed := true } })) := by
  simp [confirmStroke, dosing, confirmDosing_eq]

theorem confirmPrime_pump (counts : Bool) (s : State) :
    (confirmPrime counts s).pump.missCount = s.pump.missCount ∧ (confirmPrime counts s).pump.behind = s.pump.behind ∧
      (confirmPrime counts s).pump.strained = s.pump.strained ∧ (confirmPrime counts s).pump.primed = s.pump.primed + 1 ∧
      (confirmPrime counts s).pump.confirmed = s.pump.confirmed := by
  unfold confirmPrime
  dsimp only
  (repeat' split) <;> simp

theorem confirmPrime_stroke {counts : Bool} (stroke : s.pump.stroke = some k) :
    ∃ c, (confirmPrime counts s).pump.stroke = some { k with counts := c } := by
  unfold confirmPrime
  dsimp only
  split
  · split
    · rw [setCondition_pump]
      exact ⟨if s.pump.condition == .priming then false else k.counts, by split <;> simp_all⟩
    · exact ⟨k.counts, stroke⟩
  · exact ⟨k.counts, stroke⟩

theorem confirmPrime_of_counts (condition : s.pump.condition = .priming) :
    (confirmPrime true s).pump.primeRemaining = s.pump.primeRemaining - 1 ∧
      (confirmPrime true s).pump.condition = if s.pump.primeRemaining ≤ 1 then .available else .priming := by
  by_cases last : s.pump.primeRemaining - 1 = 0
  · simp [confirmPrime, condition, last, setCondition_pump, show s.pump.primeRemaining ≤ 1 by omega]
  · simp [confirmPrime, condition, last, show ¬ s.pump.primeRemaining ≤ 1 by omega]

theorem confirmPrime_of_not_counts {counts : Bool} (apart : counts = false ∨ s.pump.condition ≠ .priming) :
    (confirmPrime counts s).pump.primeRemaining = s.pump.primeRemaining ∧
      (confirmPrime counts s).pump.condition = s.pump.condition := by
  obtain rfl | other := apart
  · simp [confirmPrime]
  · simp [confirmPrime, other]

theorem confirmStroke_stroke (k : Stroke) (s : State) :
    ∃ c, (confirmStroke k s).pump.stroke = some { k with confirmed := true, counts := c } := by
  obtain prime | dosing := Bool.eq_false_or_eq_true k.prime
  · rw [confirmStroke_of_prime prime]
    exact confirmPrime_stroke (k := { k with confirmed := true }) rfl
  · rw [confirmStroke_of_dosing dosing]
    exact ⟨k.counts, by simp [countStroke]⟩

theorem confirmStroke_missCount : (confirmStroke k s).pump.missCount = 0 := by
  cases prime : k.prime with
  | true => rw [confirmStroke_of_prime prime, (confirmPrime_pump _ _).1]; rfl
  | false => rw [confirmStroke_of_dosing prime]; simp [countStroke]

theorem confirmStroke_watermarks : WatermarksTested s (confirmStroke k s) := by
  cases prime : k.prime with
  | true =>
    obtain ⟨-, behind, strained, -, -⟩ := confirmPrime_pump k.counts
      (s.withPump { s.pump with missCount := 0, stroke := some { k with confirmed := true } })
    rw [confirmStroke_of_prime prime]
    exact watermarksTested_of_same (by simp) behind strained
  | false =>
    rw [confirmStroke_of_dosing prime]
    exact (debit_watermarks _).congr (by simp [countStroke]) (by simp [countStroke]) (by simp [countStroke])
        (by simp [countStroke])

end

/-- What a dosing stroke that confirms does (R110, R129, R148). -/
theorem confirmStroke_dosing {k : Stroke} {s : State} {d : Nat} (dosing : k.prime = false)
    (amount : d = min s.cfg.strokeMass s.dose.debt) :
    (confirmStroke k s).pump.confirmed = s.pump.confirmed + 1 ∧ (confirmStroke k s).pump.primed = s.pump.primed ∧
      (confirmStroke k s).pump.condition = s.pump.condition ∧ (confirmStroke k s).pump.primeRemaining =
          s.pump.primeRemaining ∧
      (confirmStroke k s).dose = { s.dose with
        debt := s.dose.debt - d, debited := s.dose.debited + BitVec.ofNat 64 d,
        excess := s.dose.excess + BitVec.ofNat 64 (s.cfg.strokeMass - d),
        delivered := s.dose.delivered + BitVec.ofNat 64 s.cfg.strokeMass } ∧
      (confirmStroke k s).filter = { s.filter with delivered := s.filter.delivered + BitVec.ofNat 64 s.cfg.strokeMass } := by
  subst amount
  rw [confirmStroke_of_dosing dosing, debit_dose _ _ rfl]
  simp [countStroke, debit, addDelivered]

/-- The interval counts the stroke and the mass (R163). -/
theorem confirmStroke_interval {k : Stroke} {s : State} {j : CurrentInterval} (stroke : s.pump.stroke = some k)
    (dosing : k.prime = false)
    (open_ : s.store.current = some j) : ∃ j', (confirmStroke k s).store.current = some j' ∧ j'.strokes = j.strokes + 1 ∧
      j'.delivered = j.delivered + BitVec.ofNat 64 s.cfg.strokeMass := by
  obtain ⟨j', hj, collected⟩ := (confirmStroke_changes (b := .plain) stroke .refl).collects.current j open_
  obtain ⟨confirmed, -, -, -, dose, -⟩ := confirmStroke_dosing dosing (s := s) rfl
  have figures := collected.figures
  simp only [CurrentInterval.figures, State.figures, dose, confirmed, Prod.mk_add_mk, Prod.mk_sub_mk,
      Prod.mk.injEq] at figures
  obtain ⟨-, -, -, -, -, -, delivered, strokes, -⟩ := figures
  exact ⟨j', hj, by rw [strokes]; ring, by rw [delivered]; ring⟩

/-- What a prime stroke that confirms does (R126, R129). -/
theorem confirmStroke_prime {k : Stroke} {s : State} (prime : k.prime = true) :
    (confirmStroke k s).dose = s.dose ∧ (confirmStroke k s).filter = s.filter ∧
      (confirmStroke k s).pump.primed = s.pump.primed + 1 ∧ (confirmStroke k s).pump.confirmed = s.pump.confirmed ∧
      (k.counts = true → s.pump.condition = .priming →
        (confirmStroke k s).pump.primeRemaining = s.pump.primeRemaining - 1 ∧
          (confirmStroke k s).pump.condition = if s.pump.primeRemaining ≤ 1 then .available else .priming) ∧
      (k.counts = false ∨ s.pump.condition ≠ .priming →
        (confirmStroke k s).pump.primeRemaining = s.pump.primeRemaining ∧
          (confirmStroke k s).pump.condition = s.pump.condition) := by
  rw [confirmStroke_of_prime prime]
  obtain ⟨-, -, -, primed, confirmed⟩ := confirmPrime_pump k.counts
    (s.withPump { s.pump with missCount := 0, stroke := some { k with confirmed := true } })
  refine ⟨by simp, by simp, primed, confirmed, fun counts condition => ?_, fun apart => ?_⟩
  · rw [counts]
    exact confirmPrime_of_counts condition
  · exact confirmPrime_of_not_counts apart

/-- The three ways in which a stroke confirms: in DRIVE the phase stands, and in CONFIRM and at the end of DRIVE with no window
RECOVER begins (R125, R126, R129). -/
theorem exec_confirms {s : State} {k : Stroke} {i : Instr} {next : StrokePhase} {begun : Time}
    (started : s.peers.mode ≠ .config)
    (stroke : s.pump.stroke = some k) (fresh : k.confirmed = false)
    (ways : i = .confirmationPulse ∧ s.pump.level = false ∧ 0 < s.cfg.confirmWindow ∧ k.phase = .drive ∧ next = .drive ∧
        begun = k.phaseStart ∨
      i = .confirmationPulse ∧ s.pump.level = false ∧ 0 < s.cfg.confirmWindow ∧ k.phase = .confirm ∧ next = .recover ∧
        begun = s.clock ∨
      i = .driveEnd ∧ s.cfg.confirmWindow = 0 ∧ k.phase = .drive ∧
        s.cfg.driveTime ≤ (s.clock - k.phaseStart).toNat ∧ next = .recover ∧ begun = s.clock) :
    ∃ level c, exec i s = .next ((confirmStroke k (s.withPump { s.pump with level := level })).withPump
      { (confirmStroke k (s.withPump { s.pump with level := level })).pump with
        stroke := some { k with confirmed := true, counts := c, phase := next, phaseStart := begun } }) := by
  obtain ⟨rfl, level, window, phase, rfl, rfl⟩ | ⟨rfl, level, window, phase, rfl, rfl⟩ | ⟨rfl, window, phase, ranOut, rfl,
      rfl⟩ := ways
  · obtain ⟨c, after⟩ := confirmStroke_stroke k (s.withPump { s.pump with level := true })
    refine ⟨true, c, ?_⟩
    have taken : takePulse (s.withPump { s.pump with level := true }) =
        confirmStroke k (s.withPump { s.pump with level := true }) := by
      simp [takePulse, stroke, fresh, phase, window.ne']
    simp only [exec, execConfirmationPulse, level, Bool.false_eq_true, if_false, if_neg started]
    rw [taken, startIfChanged_of_stroke s after, ← phase, ← after]
    rfl
  · obtain ⟨c, after⟩ := confirmStroke_stroke k (s.withPump { s.pump with level := true })
    refine ⟨true, c, ?_⟩
    have taken : takePulse (s.withPump { s.pump with level := true }) =
        enterPhase .recover (confirmStroke k (s.withPump { s.pump with level := true })) := by
      simp [takePulse, stroke, fresh, phase, window.ne']
    simp only [exec, execConfirmationPulse, level, Bool.false_eq_true, if_false, if_neg started]
    rw [taken, enterPhase_eq _ after, startIfChanged_of_stroke s rfl]
    simp
  · obtain ⟨c, after⟩ := confirmStroke_stroke k s
    refine ⟨s.pump.level, c, ?_⟩
    have over_ : s.phaseOver .drive = true := phaseOver_of_stroke stroke phase ranOut
    have runs : exec .driveEnd s = .next (startIfChanged s (enterPhase .recover (confirmStroke k s))) := by
      simp only [exec, execDriveEnd, stroke, over_, if_true, if_pos window]
    have clock : (confirmStroke k s).clock = s.clock := by simp
    rw [runs, enterPhase_eq _ after, startIfChanged_of_stroke s rfl, clock]
    rfl

/-- Settles O52. -/
theorem strokesConfirm : Obligations.StrokesConfirm := by
  intro s k i next begun d started stroke fresh ways amount
  obtain ⟨level, c, runs⟩ := exec_confirms started stroke fresh ways
  generalize moved : s.withPump { s.pump with level := level } = u at runs
  have pump : u.pump = { s.pump with level := level } := by rw [← moved]; rfl
  refine ⟨_, { k with confirmed := true, counts := c, phase := next, phaseStart := begun }, runs, ?_⟩
  simp only [State.withPump_pump]
  refine ⟨confirmStroke_missCount, by simp [pump], by simp [pump], by simp [pump], by simp [pump], trivial, trivial,
      trivial, trivial, trivial,
    trivial, ?watermarks, ?cfg, ?pulse, ?sensor, ?conv, ?tally, ?peers, ?port, fun dosing => ?dosing, fun prime => ?prime⟩
  case watermarks =>
    have tested := (confirmStroke_watermarks (k := k) (s := u)).congr (u := s) (by simp [← moved]) (by simp [← moved])
        (by simp [pump])
      (by simp [pump])
    exact tested.after rfl rfl rfl
  case dosing =>
    obtain ⟨confirmed, primed, condition, remaining, dose, filter⟩ :=
      confirmStroke_dosing (s := u) dosing (d := d) (by simp [← moved, amount])
    subst moved
    exact ⟨confirmed, primed, condition, remaining, dose, filter, fun j hj => confirmStroke_interval stroke dosing hj⟩
  case prime => subst moved; exact confirmStroke_prime prime
  all_goals simp [← moved]

/-! ## A stroke misses -/

/-- The pump enters FAULT at a miss (R107, R130). -/
def State.missFaults (s : State) : Prop :=
  s.pump.condition = .priming ∨ (s.pump.condition = .available ∧ s.cfg.missLimit ≤ s.pump.missCount + 1)

/-- The miss count after a miss (R130). -/
def State.missesAfter (s : State) : Nat :=
  match s.pump.condition with
  | .priming => s.pump.missCount + 1
  | .available => s.pump.missCount + 1
  | .held => if s.pump.missCount < s.cfg.missLimit then s.pump.missCount + 1 else s.pump.missCount
  | .unset => s.pump.missCount
  | .none => s.pump.missCount
  | .fault => s.pump.missCount

/-- The node in which a miss is counted. -/
def missCounted (s : State) : State := (countMiss s).withPump { (countMiss s).pump with missCount := s.missesAfter }

section
variable {s : State}

theorem missStroke_of_faults (faults : s.missFaults) : missStroke s = enterFault (missCounted s) := by
  obtain priming | ⟨available, limit⟩ := faults
  · simp [missStroke, missCounted, countMiss, State.missesAfter, priming]
  · simp [missStroke, missCounted, countMiss, State.missesAfter, available, limit]

theorem missCounted_of_same (same : s.missesAfter = s.pump.missCount) : missCounted s = countMiss s := by
  rw [missCounted, same]
  rfl

theorem missStroke_of_stays (stays : ¬ s.missFaults) : missStroke s = missCounted s := by
  cases condition : s.pump.condition with
  | priming => exact absurd (.inl condition) stays
  | available =>
    have limit : ¬ s.cfg.missLimit ≤ s.pump.missCount + 1 := fun reached => stays (.inr ⟨condition, reached⟩)
    simp [missStroke, missCounted, countMiss, State.missesAfter, condition, limit]
  | held =>
    by_cases limit : s.pump.missCount < s.cfg.missLimit
    · simp [missStroke, missCounted, countMiss, State.missesAfter, condition, limit]
    · rw [missCounted_of_same (by simp [State.missesAfter, condition, limit])]
      simp [missStroke, countMiss, condition, limit]
  | unset | none | fault =>
    rw [missCounted_of_same (by simp [State.missesAfter, condition])]
    simp [missStroke, countMiss, condition]

@[simp] theorem missCounted_frame : (missCounted s).cfg = s.cfg ∧ (missCounted s).dose = s.dose ∧
    (∀ c, (missCounted s).isLatched c = s.isLatched c) ∧ (missCounted s).pump.condition = s.pump.condition ∧
    (missCounted s).pump.stroke = s.pump.stroke ∧ (missCounted s).pump.missCount = s.missesAfter ∧
    (missCounted s).pump.behind = s.pump.behind ∧ (missCounted s).pump.strained = s.pump.strained ∧
    (missCounted s).pump.missed = s.pump.missed + 1 ∧ (missCounted s).pump.confirmed = s.pump.confirmed ∧
    (missCounted s).pump.started = s.pump.started := by
  simp [missCounted, countMiss]

end

theorem setDebt_isTrue_fault (x : Nat) {s : State} (owner : s.isTrue .pumpFault = (s.pump.condition == .fault)) :
    (setDebt x s).isTrue .pumpFault = (s.pump.condition == .fault) := by
  unfold setDebt
  split
  · exact owner
  · simp [reportPump_isTrue]

theorem release_isTrue_fault {s : State} (owner : s.isTrue .pumpFault = (s.pump.condition == .fault)) :
    (release s).isTrue .pumpFault = (s.pump.condition == .fault) := by
  unfold release
  split
  · exact owner
  · rw [setDebt_isTrue_fault _ (by simpa [raise_isTrue] using owner)]
    simp

/-- A pump that leaves its condition releases the whole debt, and tests the watermarks at it (R107, R136). -/
theorem leaveCondition_effect (c : PumpCondition) (s : State) :
    (release (setCondition c s)).dose = { s.dose with debt := 0, released := s.dose.released + BitVec.ofNat 64 s.dose.debt } ∧
      (release (setCondition c s)).pump.condition = c ∧ WatermarksTested s (release (setCondition c s)) ∧
      ((release (setCondition c s)).isLatched .debtReleased = (s.isLatched .debtReleased || s.dose.debt != 0)) ∧
      ((release (setCondition c s)).isTrue .pumpFault = (c == .fault)) := by
  refine ⟨by simp [release_dose], by simp [setCondition_pump], ?_, ?_, ?_⟩
  · exact (release_watermarks _).congr (by simp) (by simp) (by simp) (by simp)
  · rw [release_isLatched .debtReleased _ nofun nofun]
    simp [setCondition, reportPump_isLatched]
  · rw [release_isTrue_fault (by simp [setCondition_isTrue, setCondition_pump])]
    simp [setCondition_pump]

theorem advertised_of_other {s : State} (other : s.pump.condition ≠ .available) : s.advertised = 0 := if_neg other

/-- What every miss does, whether or not the pump enters FAULT (R125, R130). -/
theorem missStroke_counts {s : State} {k : Stroke} (stroke : s.pump.stroke = some k) :
    (∃ c, (missStroke s).pump.stroke = some { k with counts := c }) ∧ WatermarksTested s (missStroke s) ∧
      (missStroke s).pump.missCount = s.missesAfter ∧ (missStroke s).pump.missed = s.pump.missed + 1 := by
  by_cases faults : s.missFaults
  · obtain ⟨-, -, tested, -, -⟩ := leaveCondition_effect .fault (missCounted s)
    rw [missStroke_of_faults faults]
    refine ⟨⟨if s.pump.condition == .priming then false else k.counts, ?_⟩,
      tested.congr (by simp) (by simp) (by simp) (by simp), by simp, by simp⟩
    have kept : (enterFault (missCounted s)).pump.stroke =
        (setCondition .fault (missCounted s)).pump.stroke := by simp [enterFault]
    rw [kept, setCondition_pump]
    split <;> simp_all
  · rw [missStroke_of_stays faults]
    exact ⟨⟨k.counts, by simp [stroke]⟩, watermarksTested_of_same (by simp) (by simp) (by simp), by simp, by simp⟩

/-- Settles O53. -/
theorem missedStrokesFaultThePump : Obligations.MissedStrokesFaultThePump := by
  intro s k faults stroke phase ranOut judged
  generalize entered : enterPhase .recover s = u
  have runs : exec .confirmWindowExpiry s = .next (startIfChanged s (missStroke u)) := by
    simp only [exec, execConfirmWindowExpiry, phaseOver_of_stroke stroke phase ranOut, if_true, entered]
  rw [enterPhase_eq _ stroke] at entered
  have faulting : u.missFaults ↔ faults = true := by rw [judged, ← entered]; exact Iff.rfl
  have recovers : u.pump.stroke = some { k with phase := .recover, phaseStart := s.clock } := by rw [← entered]; rfl
  obtain ⟨⟨c, after⟩, tested, misses, missed⟩ := missStroke_counts recovers
  rw [startIfChanged_of_stroke s after] at runs
  have misses : (missStroke u).pump.missCount = s.missesAfter := by rw [misses, ← entered]; rfl
  have missed : (missStroke u).pump.missed = s.pump.missed + 1 := by rw [missed, ← entered]; rfl
  have tested : WatermarksTested s (missStroke u) := by subst entered; exact tested
  refine ⟨missStroke u, _, runs, after, rfl, rfl, rfl, rfl, tested, missed, ?confirmed, ?started, ?cfg, ?pulse, ?sensor,
      ?conv, ?tally,
    ?peers, ?filter, ?port, fun no => ?stays, fun active => ?active, fun held => ?held, fun yes => ?faults⟩
  case stays =>
    rw [missStroke_of_stays (by simp [faulting, no]), ← entered]
    simp
  case active => rw [misses]; obtain condition | condition := active <;> simp [State.missesAfter, condition]
  case held => rw [misses]; simp [State.missesAfter, held]
  case faults =>
    obtain ⟨dose, condition, -, latch, level⟩ := leaveCondition_effect .fault (missCounted u)
    rw [missStroke_of_faults (faulting.2 yes), enterFault]
    refine ⟨condition, advertised_of_other (by rw [condition]; nofun), level, ?_, fun owed => ?_⟩
    · rw [dose, ← entered]; simp
    · rw [latch, ← entered]; simp [owed.ne']
  all_goals rw [← entered]; simp

end Sys2Proof.Machine
end

section
/-! Commands at the port that move a condition or a mode: HOLD, RESUME, PUMP_RESET, LEAVE and JOIN (sections 5.6, 7.2 and 10.5). -/

namespace Sys2Proof.Machine

/-! ## HOLD, RESUME and PUMP_RESET -/

theorem done_eq (c : Byte) (s : State) : done c s = s.withPort (s.port.recorded s.clock c .done 0) := by
  rw [done, recordCommand_eq]

section
variable {s : State}

theorem hold_taken (started : s.peers.mode ≠ .config) (may : s.pump.condition.mayHold = true) :
    exec .hold s = .next (done codeHold (release (setCondition .held s))) := by
  have still : startIfChanged s (release (setCondition .held s)) = release (setCondition .held s) := by
    refine startIfChanged_of_not _ _ ?_
    rw [← Bool.not_eq_true, mayStart_iff]
    simp [setCondition_pump]
  simp only [exec, execHold, started, may, ne_eq, not_false_eq_true, and_self, if_true, still]

/-- The pump that RESUME and PUMP_RESET send back to PRIMING (R121, R122). -/
theorem enterPriming_pump : (enterPriming s).pump =
    { s.pump with condition := .priming, primeRemaining := s.cfg.primeCount, missCount := 0 } := by
  simp [enterPriming, setCondition_pump]

theorem enterPriming_isTrue : (enterPriming s).isTrue .pumpFault = false := by
  simp [enterPriming, setCondition_isTrue]

theorem primes_again (started : s.peers.mode ≠ .config) {i : Instr} {code : Byte}
    (ways : i = .resume ∧ code = 3 ∧ s.pump.condition = .held ∨ i = .pumpReset ∧ code = 4 ∧ s.pump.condition = .fault) :
    exec i s = .next (done code (testStart (enterPriming s))) := by
  have other : s.pump.condition ≠ .priming := by
    obtain ⟨-, -, condition⟩ | ⟨-, -, condition⟩ := ways <;> simp [condition]
  have changed : startIfChanged s (enterPriming s) = testStart (enterPriming s) :=
    startIfChanged_eq_of_changed fun same => other (by
      simp only [State.startInputs, Prod.mk.injEq, enterPriming_pump] at same
      exact same.2.2.1.symm)
  obtain ⟨rfl, rfl, condition⟩ | ⟨rfl, rfl, condition⟩ := ways
  · simp only [exec, execResume, condition, ne_eq, started, not_false_eq_true, and_self, if_true, changed]
    rfl
  · simp only [exec, execPumpReset, condition, ne_eq, started, not_false_eq_true, and_self, if_true, changed]
    rfl

end

theorem begun_ne (p : PumpSequencer) (now : Time) : p.begun now ≠ p := fun same => by
  have longer : (p.begun now).history.length = p.history.length := by rw [same]
  simp [PumpSequencer.begun] at longer

/-- The first prime stroke begins exactly where the start conditions hold (R132, R134). -/
theorem enterPriming_mayStart : (enterPriming s).mayStart = true ↔ s.pump.stroke = none ∧ s.peers.mode.isActive = true ∧
    0 < s.cfg.primeCount ∧ s.pump.history.length < s.cfg.windowCap ∧
    ∀ u, s.pump.lastStart = some u → s.cfg.minSpacing ≤ (s.clock - u).toNat := by
  rw [mayStart_iff, enterPriming_pump]
  simp

/-- Settles O54. -/
theorem pumpCommandsMoveTheCondition : Obligations.PumpCommandsMoveTheCondition := by
  intro s started
  refine ⟨fun may => ?hold, fun i code ways => ?primes⟩
  case hold =>
    have runs := hold_taken started (show s.pump.condition.mayHold = true by obtain h | h | h := may <;> rw [h] <;> rfl)
    obtain ⟨dose, condition, tested, latch, level⟩ := leaveCondition_effect .held s
    rw [done_eq] at runs
    refine ⟨_, runs, ?_⟩
    simp only [State.withPort_port, State.withPort_pump, State.withPort_dose, withPort_reads, release_frame, release_keeps,
      setCondition_frame, setCondition_keeps, State.withPort_cfg, State.withPort_pulse, State.withPort_sensor,
          State.withPort_conv,
      State.withPort_tally, State.withPort_peers, State.withPort_filter]
    refine ⟨rfl, by simp [setCondition_pump], advertised_of_other (by rw [condition]; nofun), level, tested, trivial,
        trivial, trivial, ?stroke, dose,
      fun none_ => ?clear, fun owed => ?set, trivial, trivial, trivial, trivial, trivial, trivial, trivial⟩
    case stroke => by_cases priming : s.pump.condition = .priming <;> simp [setCondition_pump, priming]
    case clear => simp [latch, none_]
    case set => simp [latch, owed.ne']
  case primes =>
    have runs := primes_again started ways
    rw [done_eq, testStart_eq] at runs
    refine ⟨_, _, runs, ?port, rfl, ?pump, ?starts, ?_⟩
    case port => split <;> simp
    case pump => split <;> simp [enterPriming_pump]
    case starts =>
      rw [← enterPriming_mayStart]
      split
      · next may => simp [may, enterPriming_pump]
      · next may => simpa [may, enterPriming_pump] using (begun_ne _ _).symm
    split <;> simp [enterPriming_isTrue]

/-! ## LEAVE and JOIN -/

section
variable {s : State}

theorem fallDue_of_empty {k : Owed} (empty : s.tally.transmitter = .empty) : fallDue k s = build k s := by
  simp [fallDue, empty]

theorem build_leave (s : State) : build .leave s = makePending (.leave s.leaveNow) s := rfl

/-- A frame that falls due moves no condition but LINK FAULT. -/
theorem fallDue_alarm {k : Owed} {c : Cond} (other : c ≠ .linkFault) (s : State) :
    (fallDue k s).isTrue c = s.isTrue c ∧ (fallDue k s).isLatched c = s.isLatched c := by
  have builds (u : State) : (build k u).isTrue c = u.isTrue c ∧ (build k u).isLatched c = u.isLatched c := by
    cases k <;> simp [build, makePending]
  have abandons : (countAbandoned true s).isTrue c = s.isTrue c ∧ (countAbandoned true s).isLatched c = s.isLatched c := by
    simp [countAbandoned, testLinkFault, setLevel_isTrue, setLevel_isLatched, other]
  unfold fallDue
  split
  · simp
  · exact builds s
  · simp [builds, abandons]
  · simp [builds, abandons]
  · simp

/-- The LEAVE frame built at once, from EMPTY or in place of the waiting frame (R60, R89). -/
theorem fallDue_leave_built (speaks : s.tally.transmitter ≠ .sending) (heard : s.tally.transmitter ≠ .silent) :
    (fallDue .leave s).tally.sequence = s.tally.sequence + 1 ∧
      (fallDue .leave s).tally.pending = some { frame := .leave s.leaveNow, builtShared := s.peers.mode == .shared } ∧
      (fallDue .leave s).tally.abandoned =
        if s.tally.transmitter = .empty then s.tally.abandoned else s.tally.abandoned + 1 := by
  have waits (h : s.tally.transmitter = .defer ∨ s.tally.transmitter = .holdoff) :
      (fallDue .leave s).tally.sequence = s.tally.sequence + 1 ∧
        (fallDue .leave s).tally.pending = some { frame := .leave s.leaveNow, builtShared := s.peers.mode == .shared } ∧
        (fallDue .leave s).tally.abandoned = s.tally.abandoned + 1 := by
    have same : (countAbandoned true s).leaveNow = s.leaveNow := by simp [State.leaveNow, countAbandoned_tally]
    simp [fallDue_of_waiting h, build_leave, makePending_tally, countAbandoned_tally, same]
  cases now : s.tally.transmitter with
  | empty => simp [fallDue_of_empty now, build_leave, makePending_tally]
  | defer => simpa using waits (.inl now)
  | holdoff => simpa using waits (.inr now)
  | sending => exact absurd now speaks
  | silent => exact absurd now heard

/-- The node that has left the line, before its frame falls due (R89). -/
def parked (s : State) : State := release (setSwitchPending false (setMode .parked s))

theorem park_eq : park s = fallDue .leave (parked s) := rfl

theorem parked_effect : (parked s).peers = { s.peers with mode := .parked, switchPending := false } ∧
    (parked s).dose = { s.dose with debt := 0, released := s.dose.released + BitVec.ofNat 64 s.dose.debt } ∧
    (parked s).tally = s.tally ∧ (parked s).nodeNumber = s.nodeNumber ∧
    ((0 < s.dose.debt) → (parked s).isLatched .debtReleased = true) ∧
    (parked s).isTrue .unheard = false ∧ (parked s).isTrue .alone = false := by
  refine ⟨by simp [parked, setSwitchPending, setMode_peers], by simp [parked, setSwitchPending, release_dose],
      by simp [parked, setSwitchPending],
    by simp [parked, setSwitchPending], fun owed => ?_, ?_, ?_⟩
  · rw [parked, release_isLatched .debtReleased _ nofun nofun]
    simp [setSwitchPending, owed.ne']
  · rw [parked, release_isTrue .unheard _ nofun nofun]
    simp [setSwitchPending, setMode_isTrue]
  · rw [parked, release_isTrue .alone _ nofun nofun]
    simp [setSwitchPending, setMode_isTrue]

end

/-- Settles O59. -/
theorem leaveParksAndJoinReturns : Obligations.LeaveParksAndJoinReturns := by
  intro s
  refine ⟨fun active => ?leave, fun left => ?join⟩
  case leave =>
    obtain ⟨peers, dose, tally, number, latch, unheard, alone⟩ := parked_effect (s := s)
    have still : startIfChanged s (park s) = park s := by
      refine startIfChanged_of_not _ _ ?_
      rw [← Bool.not_eq_true, mayStart_iff]
      have mode : (park s).peers.mode = .parked := by rw [park_eq]; simp [peers]
      simp [mode, Mode.isActive]
    have runs : exec .leave s = .next (done 5 (park s)) := by
      simp only [exec, execLeave, active, if_true, still]
      rfl
    rw [done_eq, park_eq] at runs
    have alarm (c : Cond) (other : c ≠ .linkFault) := fallDue_alarm (k := .leave) other (parked s)
    refine ⟨_, runs, ?_⟩
    simp only [State.withPort_port, State.withPort_peers, State.withPort_dose, State.withPort_pump, State.withPort_tally,
        withPort_reads,
      State.withPort_cfg, State.withPort_pulse, State.withPort_sensor, State.withPort_conv, State.withPort_filter,
          fallDue_frame, peers,
      dose, (alarm .debtReleased nofun).2, (alarm .unheard nofun).1, (alarm .alone nofun).1, unheard, alone]
    refine ⟨by simp [parked, setSwitchPending], trivial, trivial, latch, trivial, trivial, by simp [parked, setSwitchPending],
      by simp [parked, setSwitchPending], fun sending => ?sending, fun silent => ?silent, fun speaks heard => ?built, ?_⟩
    case sending => simp [fallDue, tally, sending]
    case silent => rw [fallDue_silent _ _ (by rw [tally, silent]), tally]
    case built =>
      have built := fallDue_leave_built (s := parked s) (by rwa [tally]) (by rwa [tally])
      simpa [State.leaveNow, tally, number, peers, dose, show (Mode.parked == Mode.shared) = false from rfl] using built
    simp [parked, setSwitchPending]
  case join =>
    have runs : exec .join s = .next (done 6 (startIfChanged s (setMode (.solo s.joinCause) s))) := by
      simp only [exec, execJoin, left, if_true]
      rfl
    rw [done_eq] at runs
    refine ⟨_, runs, ?_⟩
    simp [setMode_peers, State.joinCause]

end Sys2Proof.Machine
end

section
/-! What Dose Accounting does at a cycle end (sections 6.3 and 6.4): the run's gas to undosed, waived, or charged to the debt. -/

namespace Sys2Proof.Machine

/-! ## The state in which the run is charged -/

/-- The node at a cycle end when the conversion is made, before Dose Accounting takes the run (R99). -/
def converted (s : State) : State :=
  addHeader s.cycleConversion.vb (countCycle s.cycleConversion.pf s.cycleConversion.tf
    (applyConversion s.cycleConversion (giveValues (closeCycle s))))

section
variable {s : State}

theorem cycleEnd_eq_ownCycleEvent : cycleEnd s =
    pollDue (ownCycleEvent s.pulse.nextNumber s.cycleConversion.vb (converted s)) := by
  rw [cycleEnd_eq, convert, giveValues_closeCycle_conversion]
  rfl

@[simp] theorem converted_frame : (converted s).clock = s.clock ∧ (converted s).cfg = s.cfg ∧ (converted s).peers = s.peers ∧
    (converted s).dose = s.dose ∧ (converted s).pump = s.pump ∧ (converted s).filter.throttled = s.filter.throttled ∧
    (converted s).advertised = s.advertised ∧ (converted s).denominator = s.denominator ∧ (converted s).share = s.share ∧
    (converted s).goesUndosed = s.goesUndosed ∧ (converted s).ceilingDebt = s.ceilingDebt := by
  have cfg : (converted s).cfg = s.cfg := by simp [converted, applyConversion]
  have peers : (converted s).peers = s.peers := by simp [converted, applyConversion]
  have pump : (converted s).pump = s.pump := by simp [converted, applyConversion]
  have advertised : (converted s).advertised = s.advertised := advertised_congr cfg (by rw [pump]) (by rw [pump])
  have denominator : (converted s).denominator = s.denominator := by
    simp only [State.denominator, State.denominatorFrom, peers, advertised]
  refine ⟨by simp [converted, applyConversion], cfg, peers, by simp [converted, applyConversion], pump,
    by simp [converted, applyConversion, addHeader], advertised, denominator, ?_, ?_, ?_⟩
  · simp only [State.share, advertised, denominator]
  · simp only [State.goesUndosed, peers, advertised, denominator]
  · simp only [State.ceilingDebt, cfg]

theorem converted_isLatched {c : Cond} (mismatch : c ≠ .pulseMismatch) (overrange : c ≠ .pulseOverrange)
    (subst : ∀ q, c ≠ substCond q) :
    (converted s).isLatched c = s.isLatched c := by
  simp [converted, applyConversion, countCycle, giveValues_isLatched c _ subst, closeCycle_isLatched, mismatch, overrange]

theorem converted_openFlag_undosed : (converted s).store.openFlag .undosed = s.store.openFlag .undosed := by
  simp only [converted, addHeader_openFlag, countCycle_openFlag, applyConversion, State.withConv_store]
  rw [giveValues_openFlag .undosed _ (fun q => by cases q <;> decide), closeCycle_openFlag]
  simp

/-! ## The run taken by Dose Accounting -/

theorem ownCycleEvent_of_undosed {n : BitVec 32} {v : Nat} (undosed : s.goesUndosed = true) : ownCycleEvent n v s =
    recordOwnCycle { number := n, vb := v, disposition := .undosed, amount := s.undosedSum v / chargeUnit }
        (addUndosed v s) :=
  if_pos undosed

theorem ownCycleEvent_of_dosed {n : BitVec 32} {v : Nat} (dosed : s.goesUndosed = false) : ownCycleEvent n v s =
    recordOwnCycle { number := n, vb := v, disposition := if s.filter.throttled then .waived else .charged,
                     amount := s.chargeSum (v * s.cfg.doseTarget) / chargeUnit } (charge (v * s.cfg.doseTarget) s) :=
  if_neg (by simp [dosed])

theorem ownCycleEvent_watermarks (n : BitVec 32) (v : Nat) : WatermarksTested s (ownCycleEvent n v s) := by
  cases way : s.goesUndosed with
  | true =>
    rw [ownCycleEvent_of_undosed way]
    exact watermarksTested_of_same (by simp [recordOwnCycle, addUndosed_dose]) (by simp [recordOwnCycle])
        (by simp [recordOwnCycle])
  | false =>
    rw [ownCycleEvent_of_dosed way]
    exact (charge_watermarks (v * s.cfg.doseTarget) s).after (by simp [recordOwnCycle]) (by simp [recordOwnCycle])
        (by simp [recordOwnCycle])

theorem ownCycleEvent_openFlag_undosed (n : BitVec 32) (v : Nat) : (ownCycleEvent n v s).store.openFlag .undosed =
    (s.store.openFlag .undosed).map (· || (decide (0 < v) &&
      (ownCycleEvent n v s).dose.lastOwn.any (fun c => c.disposition == .undosed))) := by
  cases way : s.goesUndosed with
  | true => rw [ownCycleEvent_of_undosed way]; simp [recordOwnCycle, addUndosed_openFlag]
  | false =>
    have other : ((if s.filter.throttled then Disposition.waived else Disposition.charged) == .undosed) =
        false := by split <;> rfl
    rw [ownCycleEvent_of_dosed way]
    simp [recordOwnCycle, charge_openFlag, other]

/-- DEBT RELEASED is latched exactly where a charge passes the ceiling (R104). -/
theorem takeIntoDebt_isLatched_released (x : Nat) : (takeIntoDebt x s).isLatched .debtReleased =
    (s.isLatched .debtReleased || decide (s.ceilingDebt < s.dose.debt + x)) := by
  unfold takeIntoDebt
  split
  · next within => simp [setDebt_isLatched, Nat.not_lt.2 within]
  · next past => simp [setDebt_isLatched, raise_isLatched, Nat.lt_of_not_le past]

theorem charge_of_throttled {w : Nat} (throttled : s.filter.throttled = true) :
    (charge w s).pump = s.pump ∧ (charge w s).dose = { s.dose with
      r := s.chargeSum w % 655360000000, waived := s.dose.waived + BitVec.ofNat 64 (s.chargeSum w / 655360000000) } := by
  refine ⟨by simp [charge, landCharge, throttled], ?_⟩
  rw [charge_dose, if_pos throttled]
  rfl

theorem charge_of_within {w : Nat} (free : s.filter.throttled = false)
    (within : s.dose.debt + s.chargeSum w / 655360000000 ≤ s.ceilingDebt) :
    (charge w s).isLatched .debtReleased = s.isLatched .debtReleased ∧ (charge w s).dose = { s.dose with
      r := s.chargeSum w % 655360000000, charged := s.dose.charged + BitVec.ofNat 64 (s.chargeSum w / 655360000000),
      debt := s.dose.debt + s.chargeSum w / 655360000000 } := by
  refine ⟨?_, ?_⟩
  · simp [charge, landCharge, free, takeIntoDebt_isLatched_released, chargeUnit, within]
  · rw [charge_dose, if_neg (by simp [free])]
    exact if_pos within

theorem charge_of_past {w : Nat} (free : s.filter.throttled = false)
    (past : s.ceilingDebt < s.dose.debt + s.chargeSum w / 655360000000) :
    (charge w s).isLatched .debtReleased = true ∧ (charge w s).dose = { s.dose with
      r := s.chargeSum w % 655360000000, charged := s.dose.charged + BitVec.ofNat 64 (s.chargeSum w / 655360000000),
      debt := s.ceilingDebt,
      released := s.dose.released + BitVec.ofNat 64 (s.dose.debt + s.chargeSum w / 655360000000 - s.ceilingDebt) } := by
  refine ⟨?_, ?_⟩
  · simp [charge, landCharge, free, takeIntoDebt_isLatched_released, chargeUnit, past]
  · rw [charge_dose, if_neg (by simp [free])]
    exact if_neg (Nat.not_le.2 past)

theorem goesUndosed_of (apart : s.peers.mode = .parked ∨ (s.peers.mode.isSolo = true ∧ s.advertised = 0) ∨
    (s.peers.mode = .shared ∧ s.denominator = 0)) : s.goesUndosed = true := by
  unfold State.goesUndosed
  cases mode : s.peers.mode <;> simp_all [Mode.isSolo]

theorem dosed_of (takes : (s.peers.mode.isSolo = true ∧ 0 < s.advertised) ∨ (s.peers.mode = .shared ∧ 0 < s.denominator)) :
    s.goesUndosed = false := by
  unfold State.goesUndosed
  cases mode : s.peers.mode <;> simp_all [Mode.isSolo]
  all_goals omega

/-- The interval through a cycle end (R113, R163). -/
theorem cycleEnd_interval {i : CurrentInterval} (open_ : s.store.current = some i) :
    ∃ j, (cycleEnd s).store.current = some j ∧
    j.charged = i.charged + ((cycleEnd s).dose.charged - s.dose.charged) ∧
    j.waived = i.waived + ((cycleEnd s).dose.waived - s.dose.waived) ∧
    j.undosed = i.undosed + ((cycleEnd s).dose.undosed - s.dose.undosed) ∧
    j.released = i.released + ((cycleEnd s).dose.released - s.dose.released) ∧
    j.hasFlag .undosed = (i.hasFlag .undosed ||
      (decide (0 < s.cycleConversion.vb) && (cycleEnd s).dose.lastOwn.any (fun c => c.disposition == .undosed))) := by
  obtain ⟨j, hj, collected⟩ := (cycleEnd_changes .refl).collects.current i open_
  have figures := collected.figures
  simp only [CurrentInterval.figures, State.figures, Prod.mk_add_mk, Prod.mk_sub_mk, Prod.mk.injEq] at figures
  obtain ⟨charged, -, released, -, waived, undosed, -⟩ := figures
  have flag := ownCycleEvent_openFlag_undosed (s := converted s) s.pulse.nextNumber s.cycleConversion.vb
  rw [converted_openFlag_undosed, openFlag_of_current open_] at flag
  have same : (ownCycleEvent s.pulse.nextNumber s.cycleConversion.vb (converted s)).store = (cycleEnd s).store := by
    simp [cycleEnd_eq_ownCycleEvent]
  rw [same, openFlag_of_current hj] at flag
  refine ⟨j, hj, charged, waived, undosed, released, ?_⟩
  simpa [cycleEnd_eq_ownCycleEvent] using flag

end

/-- Settles O35. -/
theorem cycleEndChargesTheRun : Obligations.CycleEndChargesTheRun := by
  intro s t0 start due
  generalize taken : ownCycleEvent s.pulse.nextNumber s.cycleConversion.vb (converted s) = u
  have cycle : cycleEnd s = pollDue u := by rw [cycleEnd_eq_ownCycleEvent, taken]
  refine ⟨_, s.cycleConversion.vb, exec_cycleTimerExpiry_due s t0 start due, by simp [cycleEnd_conv], ?watermarks,
      fun i hi => ?interval,
    fun apart => ?undosed, fun takes => ⟨_, _, rfl, rfl, ?dosed⟩⟩
  case watermarks =>
    have tested := ownCycleEvent_watermarks (s := converted s) s.pulse.nextNumber s.cycleConversion.vb
    rw [taken] at tested
    rw [cycle]
    exact (tested.congr (u := s) (by simp) (by simp) (by simp) (by simp)).after (by simp) (by simp) (by simp)
  case interval => simpa using cycleEnd_interval hi
  case undosed =>
    have way : (converted s).goesUndosed = true := by simp [goesUndosed_of apart]
    rw [ownCycleEvent_of_undosed way] at taken
    have inputs : (cycleEnd s).startInputs = s.startInputs := by
      simp [State.startInputs, cycle, ← taken, recordOwnCycle, addUndosed_dose]
    have latched := converted_isLatched (s := s) (c := .undosed) nofun nofun (fun q => by cases q <;> decide)
    rw [startIfChanged_same s _ inputs, cycle, ← taken]
    refine ⟨by simp [recordOwnCycle], by simp [recordOwnCycle, addUndosed_isLatched, latched], ?_⟩
    simp [recordOwnCycle, addUndosed_dose, State.undosedSum, chargeUnit]
  case dosed =>
    have way : (converted s).goesUndosed = false := by simp [dosed_of takes]
    have latched := converted_isLatched (s := s) (c := .debtReleased) nofun nofun (fun q => by cases q <;> decide)
    have sum : (converted s).chargeSum (s.cycleConversion.vb * s.cfg.doseTarget) =
        s.cycleConversion.vb * s.cfg.doseTarget * s.share + s.dose.r := by simp [State.chargeSum]
    have cfg : (converted s).cfg = s.cfg := by simp
    rw [ownCycleEvent_of_dosed way, cfg, sum] at taken
    refine ⟨fun throttled => ?waived, fun free within => ?charged, fun free past => ?over_⟩
    case waived =>
      obtain ⟨pump, dose⟩ := charge_of_throttled (s := converted s) (w := s.cycleConversion.vb * s.cfg.doseTarget)
        (by simp [throttled])
      rw [sum] at dose
      have inputs : (cycleEnd s).startInputs = s.startInputs := by
        simp [State.startInputs, cycle, ← taken, recordOwnCycle, pump, dose]
      rw [startIfChanged_same s _ inputs, cycle, ← taken]
      refine ⟨by simp [recordOwnCycle, pump], ?_⟩
      simp [recordOwnCycle, dose, throttled, chargeUnit]
    case charged =>
      obtain ⟨latch, dose⟩ := charge_of_within (s := converted s) (w := s.cycleConversion.vb * s.cfg.doseTarget)
        (by simp [free]) (by rw [sum]; simpa [State.ceilingDebt] using within)
      rw [sum] at dose
      rw [cycle, ← taken]
      refine ⟨by simp [recordOwnCycle, latch, latched], ?_⟩
      simp [recordOwnCycle, dose, free, chargeUnit]
    case over_ =>
      obtain ⟨latch, dose⟩ := charge_of_past (s := converted s) (w := s.cycleConversion.vb * s.cfg.doseTarget)
        (by simp [free]) (by rw [sum]; simpa [State.ceilingDebt] using past)
      rw [sum] at dose
      rw [cycle, ← taken]
      refine ⟨by simp [recordOwnCycle, latch], ?_⟩
      simp [recordOwnCycle, dose, free, chargeUnit, State.ceilingDebt]

end Sys2Proof.Machine
end

section
/-! The start of a stroke within a command (section 7.6): at most one, under the conditions that hold where it begins. -/

namespace Sys2Proof.Machine

/-! ## Before a start and after it -/

/-- The debt before what the command has surrendered since `s`. -/
def State.debtBefore (s t : State) : Nat := t.dose.debt + (t.dose.surrendered - s.dose.surrendered).toNat

/-- No stroke has begun since `s`, and no mark of BEHIND stands but that of `s` or one of the debt. -/
structure Unstarted (ended : Prop) (s t : State) : Prop where
  clock : t.clock = s.clock
  started : t.pump.started = s.pump.started
  lastStart : t.pump.lastStart = s.pump.lastStart
  stroke : t.pump.stroke = none → s.pump.stroke = none ∨ ended
  behind : t.pump.behind = true → s.pump.behind = true ∨ t.cfg.high * t.cfg.strokeMass ≤ s.debtBefore t

/-- One stroke has begun since `s`, under the start conditions (R132 to R134). -/
structure Begun (ended : Prop) (s t : State) : Prop where
  clock : t.clock = s.clock
  started : t.pump.started = s.pump.started + 1
  active : t.peers.mode.isActive = true
  lastStart : t.pump.lastStart = some s.clock
  stroke : t.pump.stroke = some { prime := t.pump.condition == .priming, start := s.clock, confirmed := false,
                                  counts := t.pump.condition == .priming, phase := .fill, phaseStart := s.clock }
  wanted : (t.pump.condition = .available ∧ t.filter.throttled = false ∧ t.cfg.low * t.cfg.strokeMass ≤ s.debtBefore t) ∨
    (t.pump.condition = .priming ∧ 0 < t.pump.primeRemaining)
  free : s.pump.stroke = none ∨ ended
  cap : t.pump.history.length ≤ t.cfg.windowCap
  last : t.pump.history.getLast? = some s.clock
  spacing : ∃ behind : Bool, (behind = true → s.pump.behind = true ∨ t.cfg.high * t.cfg.strokeMass ≤ s.debtBefore t) ∧
    ∀ u, s.pump.lastStart = some u →
      (if t.pump.condition = .priming ∨ behind = true then t.cfg.minSpacing else t.cfg.pacedSpacing) ≤ (s.clock - u).toNat

/-- At most one stroke has begun since `s`. -/
def Tracked (ended : Prop) (s t : State) : Prop := Unstarted ended s t ∨ Begun ended s t

theorem Unstarted.refl (ended : Prop) (s : State) : Unstarted ended s s := ⟨rfl, rfl, rfl, .inl, .inl⟩

/-- What a start does not depend on may move freely. -/
structure Follows (t v : State) : Prop where
  clock : v.clock = t.clock
  cfg : v.cfg = t.cfg
  throttled : v.filter.throttled = t.filter.throttled
  started : v.pump.started = t.pump.started
  condition : v.pump.condition = t.pump.condition
  remaining : v.pump.primeRemaining = t.pump.primeRemaining
  lastStart : v.pump.lastStart = t.pump.lastStart
  stroke : v.pump.stroke = t.pump.stroke
  history : v.pump.history = t.pump.history
  active : t.peers.mode.isActive = true → v.peers.mode.isActive = true

section
variable {ended : Prop} {s t v : State}

theorem Unstarted.begins (h : Unstarted ended s t) (may : t.mayStart = true) : Begun ended s (beginStroke t) := by
  obtain ⟨free, active, wanted, cap, spacing⟩ := (mayStart_iff t).1 may
  have debt : t.dose.debt ≤ s.debtBefore t := Nat.le_add_right _ _
  have clock := h.clock
  rw [beginStroke_eq]
  constructor
  case clock => exact clock
  case started => exact congrArg (· + 1) h.started
  case active => exact active
  case lastStart => exact congrArg some clock
  case stroke => simp [PumpSequencer.begun, clock]
  case wanted => exact wanted.imp (fun ⟨available, throttled, low⟩ => ⟨available, throttled, low.trans debt⟩) id
  case free => exact h.stroke free
  case cap => simpa [PumpSequencer.begun] using cap
  case last => simp [PumpSequencer.begun, clock]
  case spacing => exact ⟨t.pump.behind, h.behind, fun u hu => clock ▸ spacing u (h.lastStart.trans hu)⟩

theorem Tracked.testStart (h : Tracked ended s t) : Tracked ended s (testStart t) := by
  cases may : t.mayStart with
  | false => rwa [testStart_of_not t may]
  | true =>
    obtain unstarted | begun := h
    · rw [Machine.testStart, if_pos may]
      exact .inr (unstarted.begins may)
    · simp [State.mayStart, begun.stroke] at may

theorem Tracked.test (h : Tracked ended s t) (u : State) : Tracked ended s (startIfChanged u t) := by
  unfold startIfChanged
  split
  · exact h
  · exact h.testStart

/-- A move after which the debt before the surrenders is no less, and BEHIND stands only with the debt. -/
theorem Tracked.follow (h : Tracked ended s t) (k : Follows t v) (debt : s.debtBefore t ≤ s.debtBefore v)
    (behind : v.pump.behind = true → t.pump.behind = true ∨ v.cfg.high * v.cfg.strokeMass ≤ s.debtBefore v) :
    Tracked ended s v := by
  obtain unstarted | begun := h
  · left
    constructor
    case clock => exact k.clock.trans unstarted.clock
    case started => exact k.started.trans unstarted.started
    case lastStart => exact k.lastStart.trans unstarted.lastStart
    case stroke => rw [k.stroke]; exact unstarted.stroke
    case behind =>
      intro now
      obtain before | reached := behind now
      · exact (unstarted.behind before).imp id (k.cfg ▸ ·.trans debt)
      · exact .inr reached
  · right
    constructor
    case clock => exact k.clock.trans begun.clock
    case started => exact k.started.trans begun.started
    case active => exact k.active begun.active
    case lastStart => exact k.lastStart.trans begun.lastStart
    case stroke => rw [k.stroke, k.condition]; exact begun.stroke
    case wanted =>
      rw [k.condition, k.throttled, k.cfg, k.remaining]
      exact begun.wanted.imp (fun ⟨available, throttled, low⟩ => ⟨available, throttled, low.trans debt⟩) id
    case free => exact begun.free
    case cap => rw [k.history, k.cfg]; exact begun.cap
    case last => rw [k.history]; exact begun.last
    case spacing =>
      obtain ⟨mark, standing, spaced⟩ := begun.spacing
      refine ⟨mark, fun set => (standing set).imp id (k.cfg ▸ ·.trans debt), ?_⟩
      rw [k.condition, k.cfg]
      exact spaced

/-- A move that leaves the debt, the surrenders and BEHIND. -/
theorem Tracked.quiet (h : Tracked ended s t) (k : Follows t v) (debt : v.dose.debt = t.dose.debt)
    (surrendered : v.dose.surrendered = t.dose.surrendered) (behind : v.pump.behind = t.pump.behind) : Tracked ended s v :=
  h.follow k (by rw [State.debtBefore, State.debtBefore, debt, surrendered]) fun now => .inl (behind ▸ now)

/-- BEHIND after a test of the watermarks. -/
theorem WatermarksTested.behind_imp (tested : WatermarksTested t v) (now : v.pump.behind = true) :
    t.pump.behind = true ∨ t.cfg.high * t.cfg.strokeMass ≤ v.dose.debt := by
  unfold WatermarksTested at tested
  dsimp only at tested
  (repeat' split at tested) <;> simp_all

/-! ## The modes -/

theorem setMode_follows {m : Mode} (active : m.isActive = true) : Follows t (setMode m t) := by
  constructor
  case active => intro _; rw [setMode_peers]; exact active
  all_goals simp

theorem surrender_follows : Follows t (surrender t) := by
  constructor
  case active => simp
  all_goals simp

theorem Tracked.surrender (h : Tracked ended s t) (none_ : t.dose.surrendered = s.dose.surrendered) :
    Tracked ended s (surrender t) := by
  have amount : (t.dose.debt - min t.dose.debt t.peers.lastSharedDebt.toNat) +
      (t.dose.surrendered + BitVec.ofNat 64 (min t.dose.debt t.peers.lastSharedDebt.toNat) - s.dose.surrendered).toNat =
        t.dose.debt := by
    have last := t.peers.lastSharedDebt.isLt
    have small : min t.dose.debt t.peers.lastSharedDebt.toNat < 2 ^ 64 := by omega
    rw [none_, add_sub_cancel_left, BitVec.toNat_ofNat, Nat.mod_eq_of_lt small]
    omega
  have before : s.debtBefore (Machine.surrender t) = t.dose.debt := by
    rw [State.debtBefore, surrender_dose t _ rfl]
    exact amount
  have was : s.debtBefore t = t.dose.debt := by simp [State.debtBefore, none_]
  have tested : WatermarksTested t (Machine.surrender t) :=
    (setDebt_watermarks _ _).congr (by simp) (by simp) (by simp) (by simp)
  refine h.follow surrender_follows (by rw [before, was]) fun now => (tested.behind_imp now).imp id fun high => ?_
  rw [surrender_follows.cfg]
  exact high.trans (Nat.le_add_right _ _)

theorem Tracked.leaveShared (h : Tracked ended s t) (none_ : t.dose.surrendered = s.dose.surrendered) (c : SoloCause) :
    Tracked ended s (leaveShared c t) :=
  ((h.quiet (setMode_follows rfl) (by simp) (by simp) (by simp)).test t).surrender (by simpa using none_)

theorem Tracked.aloneIfNone (h : Tracked ended s t) (none_ : t.dose.surrendered = s.dose.surrendered) :
    Tracked ended s (aloneIfNone t) := by
  unfold Machine.aloneIfNone
  split
  · exact h.leaveShared none_ _
  · exact h

end

/-! ## Charges and adoptions -/

/-- An amount is taken into debt under the ceiling, or none is (R104). -/
structure Takes (t v : State) : Prop where
  follows : Follows t v
  mode : v.peers.mode = t.peers.mode
  surrendered : v.dose.surrendered = t.dose.surrendered
  tested : WatermarksTested t v
  debt : v.dose.debt = t.dose.debt ∨ v.dose.debt ≤ t.ceilingDebt
  rises : t.dose.debt ≤ t.ceilingDebt → t.dose.debt ≤ v.dose.debt

/-- A node in which an amount may be taken into debt: no stroke has begun and BEHIND is that of `s`, or the debt is within the
ceiling. -/
def Charging (ended : Prop) (s t : State) : Prop :=
  (Unstarted ended s t ∧ (t.pump.behind = true → s.pump.behind = true)) ∨ (Tracked ended s t ∧ t.dose.debt ≤ t.ceilingDebt)

section
variable {ended : Prop} {s t v : State}

theorem Charging.tracked (h : Charging ended s t) : Tracked ended s t := h.elim (fun h => .inl h.1) (fun h => h.1)

theorem Charging.refl (ended : Prop) (s : State) : Charging ended s s := .inl ⟨Unstarted.refl ended s, id⟩

theorem Takes.tracked (k : Takes t v) (h : Charging ended s t) : Tracked ended s v := by
  have high (now : v.pump.behind = true) : t.pump.behind = true ∨ v.cfg.high * v.cfg.strokeMass ≤ s.debtBefore v := by
    rw [k.follows.cfg]
    exact (k.tested.behind_imp now).imp id (·.trans (Nat.le_add_right _ _))
  obtain ⟨unstarted, behind⟩ | ⟨tracked, within⟩ := h
  · left
    constructor
    case clock => exact k.follows.clock.trans unstarted.clock
    case started => exact k.follows.started.trans unstarted.started
    case lastStart => exact k.follows.lastStart.trans unstarted.lastStart
    case stroke => rw [k.follows.stroke]; exact unstarted.stroke
    case behind => exact fun now => (high now).imp behind id
  · refine tracked.follow k.follows ?_ high
    rw [State.debtBefore, State.debtBefore, k.surrendered]
    exact Nat.add_le_add_right (k.rises within) _

/-- A charge or an adoption with the test of the start conditions at it (R139). -/
theorem Takes.test (k : Takes t v) (h : Charging ended s t) : Charging ended s (startIfChanged t v) := by
  have ceiling : (startIfChanged t v).ceilingDebt = t.ceilingDebt := by simp [State.ceilingDebt, k.follows.cfg]
  by_cases same : v.dose.debt = t.dose.debt
  · have behind : v.pump.behind = t.pump.behind := by
      have tested := k.tested
      unfold WatermarksTested at tested
      rw [if_pos same] at tested
      exact tested.1
    have inputs : v.startInputs = t.startInputs := by
      simp only [State.startInputs, k.follows.stroke, k.mode, k.follows.condition, k.follows.throttled, same, behind,
        k.follows.history]
    rw [startIfChanged_same _ _ inputs] at ceiling ⊢
    obtain ⟨unstarted, mark⟩ | ⟨tracked, within⟩ := h
    · left
      refine ⟨?_, fun now => mark (behind ▸ now)⟩
      constructor
      case clock => exact k.follows.clock.trans unstarted.clock
      case started => exact k.follows.started.trans unstarted.started
      case lastStart => exact k.follows.lastStart.trans unstarted.lastStart
      case stroke => rw [k.follows.stroke]; exact unstarted.stroke
      case behind => exact fun now => .inl (mark (behind ▸ now))
    · right
      exact ⟨k.tracked (.inr ⟨tracked, within⟩), by rw [same, ceiling]; exact within⟩
  · right
    refine ⟨(k.tracked h).test t, ?_⟩
    rw [ceiling, show (startIfChanged t v).dose = v.dose by simp]
    exact k.debt.resolve_left same

theorem takeIntoDebt_takes (x : Nat) (t : State) : Takes t (takeIntoDebt x t) := by
  have dose := takeIntoDebt_took x t
  constructor
  case follows => constructor <;> simp
  case mode => simp
  case surrendered => rw [dose]; unfold DoseAccounting.took; split <;> rfl
  case tested => exact takeIntoDebt_watermarks x t
  case debt =>
    right
    rw [dose]
    unfold DoseAccounting.took
    split
    · next within => exact within
    · exact Nat.le_refl _
  case rises =>
    intro within
    rw [dose]
    unfold DoseAccounting.took
    split
    · exact Nat.le_add_right _ _
    · exact within

theorem Follows.trans {u : State} (first : Follows t u) (second : Follows u v) : Follows t v := by
  constructor
  case active => exact second.active ∘ first.active
  case clock => exact second.clock.trans first.clock
  case cfg => exact second.cfg.trans first.cfg
  case throttled => exact second.throttled.trans first.throttled
  case started => exact second.started.trans first.started
  case condition => exact second.condition.trans first.condition
  case remaining => exact second.remaining.trans first.remaining
  case lastStart => exact second.lastStart.trans first.lastStart
  case stroke => exact second.stroke.trans first.stroke
  case history => exact second.history.trans first.history

/-- What is booked before the debt moves. -/
theorem Takes.booked {u : State} (k : Takes u v) (follows : Follows t u) (mode : u.peers.mode = t.peers.mode)
    (surrendered : u.dose.surrendered = t.dose.surrendered) (debt : u.dose.debt = t.dose.debt)
    (behind : u.pump.behind = t.pump.behind) (strained : u.pump.strained = t.pump.strained) : Takes t v := by
  have ceiling : u.ceilingDebt = t.ceilingDebt := by simp only [State.ceilingDebt, follows.cfg]
  constructor
  case follows => exact follows.trans k.follows
  case mode => exact k.mode.trans mode
  case surrendered => exact k.surrendered.trans surrendered
  case tested => exact k.tested.congr follows.cfg debt behind strained
  case debt => rw [← debt, ← ceiling]; exact k.debt
  case rises => rw [← debt, ← ceiling]; exact k.rises

theorem takes_of_same (follows : Follows t v) (mode : v.peers.mode = t.peers.mode)
    (surrendered : v.dose.surrendered = t.dose.surrendered) (debt : v.dose.debt = t.dose.debt)
    (behind : v.pump.behind = t.pump.behind) (strained : v.pump.strained = t.pump.strained) : Takes t v :=
  ⟨follows, mode, surrendered, watermarksTested_of_same debt behind strained, .inl debt, fun _ => debt.ge⟩

theorem landCharge_takes (x : Nat) (t : State) : Takes t (landCharge x t) := by
  unfold landCharge
  split
  · exact takes_of_same (by constructor <;> simp) (by simp) (by simp) (by simp) (by simp) (by simp)
  · exact (takeIntoDebt_takes x _).booked (by constructor <;> simp) (by simp) (by simp) (by simp) (by simp) (by simp)

theorem charge_takes (w : Nat) (t : State) : Takes t (charge w t) :=
  (landCharge_takes _ _).booked (by constructor <;> simp) (by simp) (by simp) (by simp) (by simp) (by simp)

theorem adopt_takes (k : AdoptionKind) (p o d : Nat) (t : State) : Takes t (adopt k p o d t) :=
  (takeIntoDebt_takes _ _).booked (by constructor <;> simp) (by simp) (by simp) (by simp) (by simp) (by simp)

theorem handAdoption_charging (h : Charging ended s t) (k : AdoptionKind) (n x : Nat) :
    Charging ended s (handAdoption k n x t) := by
  unfold handAdoption
  split
  · exact (adopt_takes _ _ _ _ t).test h
  · exact h

theorem handAdoption_surrendered (k : AdoptionKind) (n x : Nat) (t : State) :
    (handAdoption k n x t).dose.surrendered = t.dose.surrendered := by
  unfold handAdoption
  split
  · simpa using (adopt_takes _ _ _ _ t).surrendered
  · rfl

theorem handCharge_charging (h : Charging ended s t) (was now : Bool) (dL : BitVec 32) :
    Charging ended s (handCharge was now dL t) := by
  unfold handCharge
  split
  · exact (charge_takes _ t).test h
  · exact h

theorem handTallyAdoption_charging (h : Charging ended s t) (n : Nat) (last : LiveFields) (now : Bool) (dR : Nat) :
    Charging ended s (handTallyAdoption n last now dR t) := by
  unfold handTallyAdoption
  (repeat' split)
  · exact handAdoption_charging h _ _ _
  · exact h
  · exact handAdoption_charging h _ _ _
  · exact h

/-- A node whose dose, pump, mode and throttle are those of `s`. -/
theorem charging_of_same (clock : t.clock = s.clock) (pump : t.pump = s.pump) : Charging ended s t := by
  refine .inl ⟨⟨clock, by rw [pump], by rw [pump], by rw [pump]; exact .inl, by rw [pump]; exact .inl⟩,
      by rw [pump]; exact id⟩

/-! ## A good frame -/

theorem addDelta_follows (x v : Nat) (t : State) : Follows t (addDelivered x (addHeader v t)) := by
  constructor <;> simp [addDelivered, addHeader]

theorem acceptTally_tracked (f : TallyFrame) (last : LiveFields) (t : State) : Tracked ended t (acceptTally f last t) := by
  have updated (bad : Bool) : Charging ended t (updateEntry f last bad t) := charging_of_same (by simp) (by simp)
  unfold acceptTally
  dsimp only
  split
  · refine (handTallyAdoption_charging (s := t) ?_ _ _ _ _).tracked
    exact charging_of_same (by simp) (by simp)
  · exact (handTallyAdoption_charging (handCharge_charging (updated false) _ _ _) _ _ _ _).tracked.quiet
      (addDelta_follows _ _ _) (by simp) (by simp) (by simp)

theorem aloneAfterAdoption_tracked {u : State} (clock : u.clock = s.clock) (pump : u.pump = s.pump)
    (surrendered : u.dose.surrendered = s.dose.surrendered) (adopts : Prop) [Decidable adopts] (k : AdoptionKind)
        (n x : Nat) :
    Tracked ended s (aloneIfNone (if adopts then handAdoption k n x u else u)) := by
  have charging : Charging ended s u := charging_of_same clock pump
  split
  · exact (handAdoption_charging charging _ _ _).tracked.aloneIfNone ((handAdoption_surrendered _ _ _ _).trans surrendered)
  · exact charging.tracked.aloneIfNone surrendered

theorem acceptLeave_tracked (f : LeaveFrame) (last : LiveFields) (t : State) : Tracked ended t (acceptLeave f last t) := by
  unfold acceptLeave
  dsimp only
  split
  · exact (charging_of_same (by simp) (by simp)).tracked.aloneIfNone (by simp)
  · exact aloneAfterAdoption_tracked (by simp) (by simp) (by simp) _ _ _ _

theorem expire_tracked (n : Nat) (f : LiveFields) (t : State) : Tracked ended t (expire n f t) :=
  aloneAfterAdoption_tracked (by simp) (by simp) (by simp) _ _ _ _

theorem takeFrame_tracked (f : Frame) (t : State) : Tracked ended t (takeFrame f t) := by
  have same {v : State} (clock : v.clock = t.clock) (pump : v.pump = t.pump) : Tracked ended t v :=
    (charging_of_same clock pump).tracked
  cases f with
  | tally f =>
    simp only [takeFrame, takeTally]
    (repeat' split)
    · exact same rfl rfl
    · exact acceptTally_tracked _ _ _
    · exact same (by simp [admission]) (by simp [admission])
  | leave f =>
    simp only [takeFrame, takeLeave]
    (repeat' split)
    · exact same rfl rfl
    · exact acceptLeave_tracked _ _ _
    · exact same (by simp) (by simp)

theorem duplicate_tracked (t : State) : Tracked ended t (duplicate t) := by
  have left : Tracked ended t (if t.peers.mode =
      .shared then leaveShared .duplicate t else setMode (.solo .duplicate) t) := by
    split
    · exact Tracked.leaveShared (.inl (Unstarted.refl ended t)) rfl _
    · exact (charging_of_same (by simp) (by simp)).tracked
  exact left.quiet (by constructor <;> simp [duplicate, setSwitchPending, silence])
      (by simp [duplicate, setSwitchPending, silence])
    (by simp [duplicate, setSwitchPending, silence]) (by simp [duplicate, setSwitchPending, silence])

/-- What is tracked reads only the clock, the surrenders, and four fields of the pump, of the state before. -/
theorem Tracked.rebase (h : Tracked ended t v) (clock : t.clock = s.clock)
    (pump : t.pump.started = s.pump.started ∧ t.pump.lastStart = s.pump.lastStart ∧ t.pump.stroke = s.pump.stroke ∧
      t.pump.behind = s.pump.behind) (surrendered : t.dose.surrendered = s.dose.surrendered) : Tracked ended s v := by
  have before : t.debtBefore v = s.debtBefore v := by simp [State.debtBefore, surrendered]
  obtain ⟨startedSame, lastSame, strokeSame, behindSame⟩ := pump
  obtain unstarted | begun := h
  · obtain ⟨c, started, lastStart, stroke, behind⟩ := unstarted
    rw [before, behindSame] at behind
    rw [strokeSame] at stroke
    exact .inl ⟨c.trans clock, started.trans startedSame, lastStart.trans lastSame, stroke, behind⟩
  · obtain ⟨c, started, active, lastStart, stroke, wanted, free, cap, last, spacing⟩ := begun
    simp only [before, startedSame, lastSame, strokeSame, behindSame,
        clock] at started lastStart stroke wanted free last spacing
    exact .inr ⟨c.trans clock, started, active, lastStart, stroke, wanted, free, cap, last, spacing⟩

theorem goodFrame_tracked (f : Frame) (t : State) : Tracked ended t (goodFrame f t) := by
  unfold goodFrame
  dsimp only
  (repeat' split)
  · exact (charging_of_same (by simp) (by simp)).tracked
  · exact (duplicate_tracked _).rebase (by simp) (by simp) (by simp)
  · exact (takeFrame_tracked f _).rebase (by simp) (by simp) (by simp)

/-! ## A frame sent -/

theorem switchToShared_tracked (d : BitVec 32) (t : State) : Tracked ended t (switchToShared d t) := by
  have entered : Tracked ended t (startIfChanged t (setMode .shared t)) :=
    (charging_of_same (by simp) (by simp)).tracked.test t
  exact (entered.quiet (by constructor <;> simp) (by simp) (by simp) (by simp)).aloneIfNone (by simp)

theorem reportSent_tracked (p : Pending) (t : State) : Tracked ended t (reportSent p t) := by
  have same {v : State} (clock : v.clock = t.clock) (pump : v.pump = t.pump) : Tracked ended t v :=
    (charging_of_same clock pump).tracked
  unfold reportSent
  split
  · exact same rfl rfl
  · split
    · split
      · exact same rfl rfl
      · exact same rfl rfl
      · split
        · exact same rfl rfl
        · exact switchToShared_tracked _ t
      · exact same rfl rfl
      · exact same rfl rfl
    · exact same rfl rfl

theorem frameIsSent_tracked (p : Pending) (t : State) : Tracked ended t (frameIsSent p t) := by
  unfold frameIsSent
  generalize counted : setLevel .linkFault false _ = u
  have reported : Tracked ended t (reportSent p u) :=
    (reportSent_tracked p u).rebase (by simp [← counted]) (by simp [← counted]) (by simp [← counted])
  exact reported.quiet (by constructor <;> simp) (by simp) (by simp) (by simp)

end

end Sys2Proof.Machine
end

section
/-! Where a command starts a stroke, and that none is left waiting after it (section 7.6). -/

namespace Sys2Proof.Machine

/-! ## The end of a command -/

/-- A command leaves the inputs of the start conditions and starts nothing, or it is tracked to its end and leaves no start
waiting. -/
def Ends (ended : Prop) (s t : State) : Prop :=
  (t.pump.started = s.pump.started ∧ t.startInputs = s.startInputs) ∨
    (Tracked ended s t ∧ (t.startInputs ≠ s.startInputs → t.mayStart = false))

section
variable {ended : Prop} {s t u : State}

theorem testStart_mayStart (t : State) : (testStart t).mayStart = false := by
  cases may : t.mayStart with
  | false => rwa [testStart_of_not t may]
  | true =>
    rw [testStart, if_pos may]
    simp [State.mayStart, beginStroke_eq, PumpSequencer.begun]

theorem startIfChanged_settles (changed : (startIfChanged s u).startInputs ≠ s.startInputs) :
    (startIfChanged s u).mayStart = false := by
  unfold startIfChanged at changed ⊢
  split at changed
  · next same => exact absurd same changed
  · next other => rw [if_neg other]; exact testStart_mayStart u

theorem ends_test (h : Tracked ended s u) : Ends ended s (startIfChanged s u) := .inr ⟨h.test s, startIfChanged_settles⟩

theorem ends_of_same (started : t.pump.started = s.pump.started) (inputs : t.startInputs = s.startInputs) : Ends ended s t :=
  .inl ⟨started, inputs⟩

theorem ends_done (code : Byte) (h : Tracked ended s u) : Ends ended s (done code (startIfChanged s u)) := by
  rw [done_eq]
  refine .inr ⟨(h.test s).quiet (by constructor <;> simp) (by simp) (by simp) (by simp), ?_⟩
  exact startIfChanged_settles (s := s) (u := u)

theorem ends_refused (code : Byte) (s : State) : Ends ended s (refuseState code s) := by
  rw [refuseState, recordCommand_eq]
  exact ends_of_same rfl rfl

/-- A body that begins no stroke, and under which BEHIND is tested at the debt. -/
theorem tracked_of_tested (clock : u.clock = s.clock) (cfg : u.cfg = s.cfg) (started : u.pump.started = s.pump.started)
    (lastStart : u.pump.lastStart = s.pump.lastStart) (stroke : u.pump.stroke = none → s.pump.stroke = none ∨ ended)
    (tested : WatermarksTested s u) : Tracked ended s u := by
  refine .inl ⟨clock, started, lastStart, stroke, fun now => (tested.behind_imp now).imp id fun high => ?_⟩
  rw [cfg]
  exact high.trans (Nat.le_add_right _ _)

/-! ## The bodies of the commands -/

theorem cycleEnd_tracked (s : State) : Tracked ended s (cycleEnd s) := by
  have tested := (ownCycleEvent_watermarks (s := converted s) s.pulse.nextNumber s.cycleConversion.vb).congr (u := s)
      (by simp) (by simp)
    (by simp) (by simp)
  rw [cycleEnd_eq_ownCycleEvent]
  refine tracked_of_tested ?_ ?_ ?_ ?_ ?_ (tested.after (by simp) (by simp) (by simp))
  all_goals simp
  exact .inl

theorem startNode_tracked (s : State) : Tracked ended s (startNode s) := by
  left
  constructor
  case clock => simp
  case behind => simp [startNode_pump]
  case stroke => rw [startNode_pump]; exact .inl
  all_goals rw [startNode_pump]

theorem setCondition_stroke_none {c : PumpCondition} (none_ : (setCondition c s).pump.stroke = none) :
    s.pump.stroke = none := by
  rw [setCondition_pump] at none_
  dsimp only at none_
  split at none_
  · simpa using none_
  · exact none_

theorem leaveCondition_tracked (c : PumpCondition) (s : State) : Tracked ended s (release (setCondition c s)) := by
  obtain ⟨-, -, tested, -, -⟩ := leaveCondition_effect c s
  exact tracked_of_tested (by simp) (by simp) (by simp) (by simp)
    (fun none_ => .inl (setCondition_stroke_none (c := c) (by simpa using none_))) tested

theorem enterPriming_tracked (s : State) : Tracked ended s (enterPriming s) := by
  have pump := enterPriming_pump (s := s)
  exact tracked_of_tested (by simp) (by simp) (by rw [pump]) (by rw [pump]) (by rw [pump]; exact .inl)
    (watermarksTested_of_same (by simp) (by rw [pump]) (by rw [pump]))

theorem park_tracked (s : State) : Tracked ended s (park s) := by
  have tested : WatermarksTested s (parked s) :=
    (release_watermarks _).congr (by simp [setSwitchPending]) (by simp [setSwitchPending]) (by simp [setSwitchPending])
      (by simp [setSwitchPending])
  rw [park_eq]
  exact tracked_of_tested (by simp [parked, setSwitchPending]) (by simp [parked, setSwitchPending])
      (by simp [parked, setSwitchPending])
    (by simp [parked, setSwitchPending]) (by simpa [parked, setSwitchPending] using .inl)
        (tested.after (by simp) (by simp) (by simp))

/-- A stroke in flight stays in flight through its own confirmation or miss. -/
theorem tracked_of_stroke {k : Stroke} (clock : u.clock = s.clock) (cfg : u.cfg = s.cfg)
    (started : u.pump.started = s.pump.started)
    (lastStart : u.pump.lastStart = s.pump.lastStart) (stroke : u.pump.stroke = some k) (tested : WatermarksTested s u) :
    Tracked ended s u :=
  tracked_of_tested clock cfg started lastStart (fun none_ => absurd (none_.symm.trans stroke) nofun) tested

theorem recover_confirmStroke_tracked (k : Stroke) (s : State) :
    Tracked ended s (enterPhase .recover (confirmStroke k s)) := by
  obtain ⟨c, stroke⟩ := confirmStroke_stroke k s
  rw [enterPhase_eq _ stroke]
  exact tracked_of_stroke (by simp) (by simp) (by simp) (by simp) rfl (confirmStroke_watermarks.after rfl rfl rfl)

theorem confirmStroke_tracked (k : Stroke) (s : State) : Tracked ended s (confirmStroke k s) := by
  obtain ⟨c, stroke⟩ := confirmStroke_stroke k s
  exact tracked_of_stroke (by simp) (by simp) (by simp) (by simp) stroke confirmStroke_watermarks

theorem strayPulse_tracked (s : State) : Tracked ended s (strayPulse s) :=
  tracked_of_tested rfl rfl rfl rfl .inl (watermarksTested_of_same rfl rfl rfl)

theorem takePulse_tracked (s : State) : Tracked ended s (takePulse s) := by
  unfold takePulse
  split
  · split
    · exact strayPulse_tracked s
    · split
      · exact confirmStroke_tracked _ s
      · exact recover_confirmStroke_tracked _ s
      · exact strayPulse_tracked s
      · exact strayPulse_tracked s
  · exact strayPulse_tracked s

theorem recover_missStroke_tracked {k : Stroke} (stroke : s.pump.stroke = some k) :
    Tracked ended s (missStroke (enterPhase .recover s)) := by
  rw [enterPhase_eq _ stroke]
  generalize entered : s.withPump _ = v
  have recovers : v.pump.stroke = some { k with phase := .recover, phaseStart := s.clock } := by rw [← entered]; rfl
  obtain ⟨⟨c, after⟩, tested, -, -⟩ := missStroke_counts recovers
  refine tracked_of_stroke ?_ ?_ ?_ ?_ after (tested.congr ?_ ?_ ?_ ?_) <;> simp [← entered]

/-- A stroke that moves to its next phase stays in flight. -/
theorem enterPhase_ends {p : StrokePhase} (next : StrokePhase) (ranOut : s.phaseOver p = true) :
    Ends ended s (enterPhase next s) := by
  obtain ⟨k, stroke, -⟩ := (phaseOver_iff s p).1 ranOut
  rw [enterPhase_eq _ stroke]
  exact ends_of_same rfl (by simp [State.startInputs, stroke])

theorem periodEnd_tracked (s : State) : Tracked ended s (periodEnd s) := (charging_of_same (by simp) (by simp)).tracked

theorem setMode_tracked (m : Mode) (s : State) :
    Tracked ended s (setMode m s) := (charging_of_same (by simp) (by simp)).tracked

end

/-! ## Every command -/

/-- A command that moves neither pump, mode, dose nor filter starts nothing. -/
theorem exec_ends_of_still {i : Instr} {s t : State} (pump : Part.pump ∉ movedParts i) (peers : Part.peers ∉ movedParts i)
    (dose : Part.dose ∉ movedParts i) (filter : Part.filter ∉ movedParts i) (h : exec i s = .next t) :
        Ends (i = .recoverEnd) s t := by
  have pumpSame : t.pump = s.pump := exec_same h .pump pump
  have peersSame : t.peers = s.peers := exec_same h .peers peers
  have doseSame : t.dose = s.dose := exec_same h .dose dose
  have filterSame : t.filter = s.filter := exec_same h .filter filter
  exact ends_of_same (by rw [pumpSame]) (by simp only [State.startInputs, pumpSame, peersSame, doseSame, filterSame])

theorem movedParts_pulseEdge {change : LevelChange} (other : change ≠ .low .confirmation) :
    movedParts (.pulseEdge change) = [.pulse] := by
  unfold movedParts
  split <;> simp_all

theorem exec_ends {i : Instr} {s t : State} (notReset : ∀ n a x y z, i ≠ .coldReset n a x y z) (h : exec i s = .next t) :
    Ends (i = .recoverEnd) s t := by
  by_cases still : Part.pump ∉ movedParts i ∧ Part.peers ∉ movedParts i ∧ Part.dose ∉ movedParts i ∧
      Part.filter ∉ movedParts i
  · obtain ⟨pump, peers, dose, filter⟩ := still
    exact exec_ends_of_still pump peers dose filter h
  cases i
  case coldReset => exact absurd rfl (notReset _ _ _ _ _)
  case pulseEdge change =>
    by_cases fall : change = .low .confirmation
    · subst fall
      cases h
      exact ends_of_same rfl rfl
    · exact absurd (movedParts_pulseEdge fall ▸ by simp) still
  case cycleTimerExpiry =>
    simp only [exec, execCycleTimerExpiry] at h
    split at h <;> cases h
    · exact ends_test (cycleEnd_tracked s)
    · exact ends_of_same rfl rfl
  case frameEnd bytes x y =>
    simp only [exec, execFrameEnd] at h
    (repeat' split at h) <;> cases h
    · exact ends_of_same rfl rfl
    · exact ends_of_same rfl rfl
    · exact ends_test ((goodFrame_tracked _ _).rebase rfl ⟨rfl, rfl, rfl, rfl⟩ rfl)
    · exact ends_of_same rfl rfl
  case frameSent =>
    simp only [exec, execFrameSent] at h
    split at h <;> cases h
    · exact ends_test (frameIsSent_tracked _ s)
    · exact ends_of_same rfl rfl
  case peerExpiry n =>
    simp only [exec, execPeerExpiry] at h
    (repeat' split at h) <;> cases h
    · exact ends_test (expire_tracked _ _ s)
    · exact ends_of_same rfl rfl
    · exact ends_of_same rfl rfl
  case unheard =>
    simp only [exec, execUnheard] at h
    split at h <;> cases h
    · exact ends_test (Tracked.leaveShared (.inl (Unstarted.refl _ s)) rfl _)
    · exact ends_of_same rfl rfl
  case strokeStart => cases h; exact .inr ⟨Tracked.testStart (.inl (Unstarted.refl _ s)), fun _ => testStart_mayStart s⟩
  case spacingRunsOut => cases h; exact .inr ⟨Tracked.testStart (.inl (Unstarted.refl _ s)), fun _ => testStart_mayStart s⟩
  case fillEnd =>
    simp only [exec, execFillEnd] at h
    split at h <;> cases h
    · next ranOut => exact enterPhase_ends _ ranOut
    · exact ends_of_same rfl rfl
  case recoverEnd =>
    simp only [exec, execRecoverEnd] at h
    split at h <;> cases h
    · exact ends_test (tracked_of_tested rfl rfl rfl rfl (fun _ => .inr rfl) (watermarksTested_of_same rfl rfl rfl))
    · exact ends_of_same rfl rfl
  case historyEntryLeaves =>
    simp only [exec, execHistoryEntryLeaves] at h
    split at h <;> cases h
    · exact ends_test (tracked_of_tested rfl rfl rfl rfl .inl (watermarksTested_of_same rfl rfl rfl))
    · exact ends_of_same rfl rfl
  case driveEnd =>
    simp only [exec, execDriveEnd] at h
    (repeat' split at h) <;> cases h
    · exact ends_test (recover_confirmStroke_tracked _ s)
    · next ranOut _ _ => exact enterPhase_ends _ ranOut
    · next ranOut _ _ => exact enterPhase_ends _ ranOut
    · exact ends_of_same rfl rfl
    · exact ends_of_same rfl rfl
  case confirmationPulse =>
    simp only [exec, execConfirmationPulse] at h
    (repeat' split at h) <;> cases h
    · exact ends_of_same rfl rfl
    · exact ends_of_same rfl rfl
    · exact ends_test ((takePulse_tracked _).rebase rfl ⟨rfl, rfl, rfl, rfl⟩ rfl)
  case confirmWindowExpiry =>
    simp only [exec, execConfirmWindowExpiry] at h
    split at h <;> cases h
    · next ranOut =>
      obtain ⟨k, stroke, -⟩ := (phaseOver_iff s _).1 ranOut
      exact ends_test (recover_missStroke_tracked stroke)
    · exact ends_of_same rfl rfl
  case periodTimerExpiry =>
    simp only [exec, execPeriodTimerExpiry] at h
    split at h <;> cases h
    · exact ends_test (periodEnd_tracked s)
    · exact ends_of_same rfl rfl
  case lowDwellExpiry =>
    simp only [exec, execLowDwellExpiry] at h
    split at h <;> cases h
    · exact ends_of_same (by simp) (by simp [State.startInputs])
    · exact ends_of_same rfl rfl
  case start =>
    obtain ⟨result, index, refused⟩ | ⟨-, accepted⟩ := exec_start_cases s
    · cases refused.symm.trans h
      rw [recordCommand_eq]
      exact ends_of_same rfl rfl
    · cases accepted.symm.trans h
      exact ends_done _ (startNode_tracked s)
  case hold =>
    simp only [exec, execHold] at h
    split at h <;> cases h
    · exact ends_done _ (leaveCondition_tracked _ s)
    · exact ends_refused _ s
  case resume =>
    simp only [exec, execResume] at h
    split at h <;> cases h
    · exact ends_done _ (enterPriming_tracked s)
    · exact ends_refused _ s
  case pumpReset =>
    simp only [exec, execPumpReset] at h
    split at h <;> cases h
    · exact ends_done _ (enterPriming_tracked s)
    · exact ends_refused _ s
  case leave =>
    simp only [exec, execLeave] at h
    split at h <;> cases h
    · exact ends_done _ (park_tracked s)
    · exact ends_refused _ s
  case join =>
    simp only [exec, execJoin] at h
    split at h <;> cases h
    · exact ends_done _ (setMode_tracked _ s)
    · exact ends_refused _ s
  all_goals exact absurd (by simp [movedParts]) still

/-- Settles O11. -/
theorem strokesStartOnlyUnderTheStartConditions : Obligations.StrokesStartOnlyUnderTheStartConditions := by
  rintro i s t debt notReset h rfl
  obtain ⟨started, -⟩ | ⟨unstarted | begun, -⟩ := exec_ends notReset h
  · exact .inl started
  · exact .inl unstarted.started
  · exact .inr ⟨begun.started, begun.active, begun.lastStart, begun.stroke, begun.wanted, begun.free, begun.cap, begun.last,
      begun.spacing⟩

/-- Settles O12. -/
theorem noStartIsLeftWaiting : Obligations.NoStartIsLeftWaiting := by
  intro i s t h changed
  by_cases reset : ∃ n a x y z, i = .coldReset n a x y z
  · obtain ⟨n, a, x, y, z, rfl⟩ := reset
    cases h
    rfl
  · obtain ⟨-, same⟩ | ⟨-, settled⟩ := exec_ends (by simpa using reset) h
    · exact absurd same changed
    · exact settled changed

end Sys2Proof.Machine
end
